-- ==== Sys2Proof/Word.lean ====
section
/-! DEFINITION. The words of the CAST5-CFB core: bytes, words and blocks (00_scope.md R8, R10).
The byte-order helpers over them stand in Machine/Bytes.lean. -/

namespace Sys2Proof

/-- A byte is 8 bits (R8). -/
abbrev Byte := BitVec 8

/-- A word is 32 bits, bit 31 the most significant (R8). -/
abbrev Word := BitVec 32

/-- A block is the sequence of 8 bytes `b[0..7]` (R8, R10). -/
abbrev Block := Vector Byte 8

end Sys2Proof
end

