-- ==== Sys2Proof/Syntax.lean ====
section
/-! DEFINITION. The eight commands, one constructor for each row of spec/opcode_table.json
(30_encoding.md R103). -/

namespace Sys2Proof

/-- A command of the core. `len` is the `LEN` operand, an unsigned number of bytes (R101, R102): every
row of the table leaves it free (its mask is `0xFFFF00FF`), and it is checked after decoding (R105). -/
inductive Instr where
  /-- NOP, `OP` 0x00 (43_control_ops.md R200). -/
  | nop (len : Nat)
  /-- SETKEY, `OP` 0x01 (40_key_schedule.md R130). -/
  | setkey (len : Nat)
  /-- ENCBLK, `OP` 0x02 (41_block_cipher.md R156). -/
  | encblk (len : Nat)
  /-- DECBLK, `OP` 0x03 (41_block_cipher.md R157). -/
  | decblk (len : Nat)
  /-- CFBINIT, `OP` 0x04 (42_cfb_engine.md R170). -/
  | cfbinit (len : Nat)
  /-- CFBDEC, `OP` 0x05 (42_cfb_engine.md R174). -/
  | cfbdec (len : Nat)
  /-- CFBEND, `OP` 0x06 (42_cfb_engine.md R175). -/
  | cfbend (len : Nat)
  /-- WIPE, `OP` 0x07 (43_control_ops.md R201). -/
  | wipe (len : Nat)
  deriving DecidableEq, Repr

/-- The `LEN` operand (R102). -/
def Instr.len : Instr → Nat
  | .nop l => l
  | .setkey l => l
  | .encblk l => l
  | .decblk l => l
  | .cfbinit l => l
  | .cfbdec l => l
  | .cfbend l => l
  | .wipe l => l

end Sys2Proof
end

