-- ==== Sys2Proof/Decode.lean ====
section
/-! DEFINITION. From a command word to a command, or a rejection by name, and back
(30_encoding.md R100 to R105). A command word is one 32-bit number written to CMD: no byte order
applies to it (20_memory.md R66). -/

namespace Sys2Proof

/-- Why a word is no command (R104); either way the core fails it with `E_BADCMD`. -/
inductive Undecodable where
  /-- `RSV != 0`, whatever `OP` is (R104 (a)). -/
  | reservedBits
  /-- `OP` in 0x08..0xFF (R104 (b)). -/
  | reservedOpcode
  deriving DecidableEq, Repr

/-- `OP`, bits 7:0 (R101). -/
def opField (w : Word) : Byte := w.extractLsb' 0 8

/-- `LEN`, bits 15:8, unsigned (R101, R102). -/
def lenField (w : Word) : Byte := w.extractLsb' 8 8

/-- `RSV`, bits 31:16, must be zero (R101). -/
def rsvField (w : Word) : BitVec 16 := w.extractLsb' 16 16

/-- The operation an `OP` selects (R103), with its `LEN`. -/
def decodeOp (op len : Nat) : Except Undecodable Instr :=
  match op with
  | 0 => .ok (.nop len)
  | 1 => .ok (.setkey len)
  | 2 => .ok (.encblk len)
  | 3 => .ok (.decblk len)
  | 4 => .ok (.cfbinit len)
  | 5 => .ok (.cfbdec len)
  | 6 => .ok (.cfbend len)
  | 7 => .ok (.wipe len)
  | _ => .error .reservedOpcode

/-- Decoding of a CMD write (R104, R105 step 1). -/
def decode (w : Word) : Except Undecodable Instr :=
  if rsvField w ≠ 0 then .error .reservedBits
  else decodeOp (opField w).toNat (lenField w).toNat

/-- The `OP` of a command (R103). -/
def Instr.opcode : Instr → Byte
  | .nop _ => 0x00
  | .setkey _ => 0x01
  | .encblk _ => 0x02
  | .decblk _ => 0x03
  | .cfbinit _ => 0x04
  | .cfbdec _ => 0x05
  | .cfbend _ => 0x06
  | .wipe _ => 0x07

/-- The command word `RSV ++ LEN ++ OP` (R101); of a `LEN` that is not well formed, its low bits. -/
def encode (i : Instr) : Word := (0 : BitVec 16) ++ BitVec.ofNat 8 i.len ++ i.opcode

/-- The command read from a row of spec/opcode_table.json whose bits are `w` (the host's numbering);
every bit above `nbits` is 0, and a command is 32 bits long (R100). -/
def decodeTableWord (nbits w : Nat) : Option Instr :=
  let bits := w % 2 ^ nbits
  if bits < 2 ^ 32 then
    match decode (BitVec.ofNat 32 bits) with
    | .ok i => some i
    | .error _ => none
  else none

end Sys2Proof
end

