-- ==== Sys2Proof/Machine/Bytes.lean ====
section
/-! DEFINITION. Byte order and word arithmetic (00_scope.md R9, R10; 20_memory.md R66): everything is
big-endian. -/

namespace Sys2Proof.Machine

/-- `be32(b0, b1, b2, b3)`: four bytes, the first the most significant (R9). -/
def be32 (b0 b1 b2 b3 : Byte) : Word := b0 ++ b1 ++ b2 ++ b3

/-- `Bj(w)` for `j` in 0..3: `B0` is `w[31:24]`, `B3` is `w[7:0]` (R9). -/
def byteOf (w : Word) (j : Nat) : Byte := w.extractLsb' (24 - 8 * j) 8

/-- `rol32(v, n)`, `0 <= n <= 31` (R9). -/
def rol32 (v : Word) (n : Nat) : Word :=
  if n = 0 then v else (v <<< n) ||| (v >>> (32 - n))

/-- The bytes of a register pair: byte `j` is `Bj` of register 0 for `j` in 0..3 and `B(j-4)` of
register 1 for `j` in 4..7 (20_memory.md R66). -/
def pairBytes (r : Vector Word 2) : Block :=
  Vector.ofFn fun j : Fin 8 => byteOf (r[j.val / 4]'(by omega)) (j.val % 4)

/-- The register pair that carries a block (20_memory.md R66). -/
def bytesPair (b : Block) : Vector Word 2 :=
  #v[be32 b[0] b[1] b[2] b[3], be32 b[4] b[5] b[6] b[7]]

/-- A block whose first bytes are given, the positions after them zero (20_memory.md R68). -/
def padBlock (bs : List Byte) : Block := Vector.ofFn fun j : Fin 8 => bs.getD j.val 0

/-- A block of zero bytes. -/
abbrev zeroBlock : Block := Vector.replicate 8 0

end Sys2Proof.Machine
end

