-- ==== Sys2Proof/Machine/State.lean ====
section
/-! DEFINITION. The state of the core (10_state.md R20), the host accesses it answers (20_memory.md R63
to R65), the reasons a step can stop, and the state after reset (10_state.md R45). -/

namespace Sys2Proof.Machine

/-- The key schedule (10_state.md R21 to R23). -/
structure KeySchedule where
  /-- `Km[0..15]`, the masking subkeys (R21). -/
  km : Vector Word 16
  /-- `Kr[0..15]`, the rotation subkeys (R22). -/
  kr : Vector (BitVec 5) 16
  /-- `KV`, key valid (R23). -/
  kv : Bool
  deriving DecidableEq, Repr

/-- The state of one decryption stream (10_state.md R24 to R32). -/
structure CfbState where
  /-- `FR[0..7]`, the feedback register (R24). -/
  fr : Block
  /-- `KS[0..7]`, the current keystream block (R25). -/
  ks : Block
  /-- `CB[0..7]`, the ciphertext bytes of the block not yet complete (R26). -/
  cb : Block
  /-- `POS`, the bytes of the current block already consumed (R27). -/
  pos : Fin 8
  /-- `PFX`, the prefix bytes consumed so far (R28). -/
  pfx : Fin 11
  /-- `PB[0..3]`, the decrypted prefix bytes of index 6 to 9 (R29). -/
  pb : Vector Byte 4
  /-- `CFBA`, stream active (R30). -/
  cfba : Bool
  /-- `QCDONE`, the quick check has been evaluated (R31). -/
  qcdone : Bool
  /-- `QCFAIL`, the `KeyMismatchSuspected` signal (R32). -/
  qcfail : Bool
  deriving DecidableEq, Repr

/-- The named registers of the host register space (20_memory.md R63). -/
inductive Reg where
  /-- `CMD`, write only (10_state.md R36). -/
  | cmd
  /-- `STATUS`, read only (10_state.md R37). -/
  | status
  /-- `ERR`, read only (10_state.md R38). -/
  | err
  /-- `KEY[j]`, write only (10_state.md R33). -/
  | key (j : Fin 4)
  /-- `DIN[j]` (10_state.md R34). -/
  | din (j : Fin 2)
  /-- `DOUT[j]`, read only (10_state.md R35). -/
  | dout (j : Fin 2)
  deriving DecidableEq, Repr

/-- The width of a host access; only 32-bit accesses are defined (20_memory.md R64). -/
inductive Width where
  | byte
  | half
  | word
  deriving DecidableEq, Repr

/-- What can reach the core from outside: the host's register accesses at a byte offset from the base
address (20_memory.md R63 to R65), and the reset (70_reset_and_hazards.md R250). -/
inductive Input where
  /-- `RegRead(off)` with its width. -/
  | read (width : Width) (off : Nat)
  /-- `RegWrite(off, v)` with its width. -/
  | write (width : Width) (off : Nat) (v : Word)
  /-- The reset input or a power-on. -/
  | reset
  deriving DecidableEq, Repr

/-- The whole state: the spec's elements (R20), then three fields of the model's own. `CMD` stores
nothing (R36) and `STATUS` is a view (R37): neither is a field. The S-box ROMs are constants. -/
structure State where
  /-- `Km`, `Kr`, `KV` (10_state.md R21 to R23). -/
  sched : KeySchedule
  /-- `FR`, `KS`, `CB`, `POS`, `PFX`, `PB`, `CFBA`, `QCDONE`, `QCFAIL` (10_state.md R24 to R32). -/
  cfb : CfbState
  /-- `KEY[0..3]`, the key staging registers (10_state.md R33). -/
  key : Vector Word 4
  /-- `DIN[0..1]`, the input staging registers (10_state.md R34). -/
  din : Vector Word 2
  /-- `DOUT[0..1]`, the result registers (10_state.md R35). -/
  dout : Vector Word 2
  /-- `ERR`, the status code of the last command (10_state.md R38). -/
  err : Word
  /-- `HALT`, the fail-stop (10_state.md R39). -/
  halt : Bool
  /-- The model's own: the inputs still to come, in the order the host issues them (20_memory.md R70).
  DESIGN CHOICE, log entry 1. -/
  inputs : List Input
  /-- The model's own: the words the host's reads have returned, newest first. DESIGN CHOICE, log
  entry 3. -/
  returned : List Word
  /-- The model's own: how many draws of `zeroize_ok` have been taken. DESIGN CHOICE, log entry 4. -/
  wipes : Nat
  deriving DecidableEq, Repr

/-- Nothing in the core faults: a failing command is a next state with a code in `ERR`
(60_exceptions.md R218), the fail-stop is a next state with `HALT` set (R225), and no failure can
arise during a command's computation (R216). The type has no constructor. -/
inductive Fault where
  deriving DecidableEq, Repr

/-- Why a step has no meaning. -/
inductive Refusal where
  /-- Raised by `exec` for an instruction without a meaning yet (none is left). Safe: nothing about
  the instruction can be proved. -/
  | notModelled (mnemonic : String)
  /-- Raised by a host access of a byte or a half word (20_memory.md R64). Safe: the spec gives the
  access no meaning and asks a model to refuse it. -/
  | narrowAccess
  /-- Raised by a host access whose offset is no multiple of 4 (20_memory.md R64). Safe, as above. -/
  | misalignedAccess
  /-- Raised by a host access at offset 0x40 or above (20_memory.md R64). Safe, as above. -/
  | outsideRegisters
  deriving DecidableEq, Repr

/-- The key schedule after reset or WIPE: every subkey zero, no valid key (10_state.md R45). -/
def KeySchedule.zero : KeySchedule where
  km := Vector.replicate 16 0
  kr := Vector.replicate 16 0
  kv := false

/-- The stream state after reset or WIPE: everything zero, no stream (10_state.md R45). -/
def CfbState.zero : CfbState where
  fr := Vector.replicate 8 0
  ks := Vector.replicate 8 0
  cb := Vector.replicate 8 0
  pos := 0
  pfx := 0
  pb := Vector.replicate 4 0
  cfba := false
  qcdone := false
  qcfail := false

/-- The machine after reset: every element of the spec zero (10_state.md R45). The model's own fields
start empty (log entries 1, 3, 4). -/
def State.reset : State where
  sched := KeySchedule.zero
  cfb := CfbState.zero
  key := Vector.replicate 4 0
  din := Vector.replicate 2 0
  dout := Vector.replicate 2 0
  err := 0
  halt := false
  inputs := []
  returned := []
  wipes := 0

end Sys2Proof.Machine
end

