-- ==== Sys2Proof/Machine/Operands.lean ====
section
/-! DEFINITION. Operand carriage: where each command finds its operands and leaves its result
(30_encoding.md R106; 20_memory.md R66 to R68). -/

namespace Sys2Proof.Machine

/-- The key operand of SETKEY: `k[i]` is byte `i mod 4` of `KEY[i div 4]` (R106, 20_memory.md R67). -/
def keyOperand (s : State) : Vector Byte 16 :=
  Vector.ofFn fun i : Fin 16 => byteOf (s.key[i.val / 4]'(by omega)) (i.val % 4)

/-- The block operand of ENCBLK and DECBLK, and the IV of CFBINIT: byte `j` of the `DIN` pair (R106). -/
def blockOperand (s : State) : Block := pairBytes s.din

/-- The chunk of CFBDEC: the bytes of `DIN` at positions 0 to `n - 1`; the others are ignored
(R106, 20_memory.md R68). -/
def chunkOperand (s : State) (n : Nat) : List Byte := (pairBytes s.din).toList.take n

/-- The result block goes to the `DOUT` pair (R106, 20_memory.md R66). -/
def putResult (s : State) (o : Block) : State := { s with dout := bytesPair o }

/-- The result bytes of a chunk go to positions 0 to `n - 1` of `DOUT`, zero to the others (R106,
20_memory.md R68). -/
def putChunk (s : State) (ps : List Byte) : State := putResult s (padBlock ps)

end Sys2Proof.Machine
end

