-- ==== Sys2Proof/Config.lean ====
section
/-! DEFINITION. The parameters of the core that its spec leaves open (00_scope.md R5), as constants
without a body, so that no proof can see a value of them. The parameters R5 fixes (key length 16,
block 8, rounds 16, prefix 10, chunk at most 8) stand as numerals where the rules use them; the IV is
an operand of CFBINIT. -/

namespace Sys2Proof.Config

/-- `BASE`: the bus address of the register space, the platform's choice; OPEN, and used by no rule
(R5, 92_eei_decisions.md D1, 93_implementation_defined.md U11). Log entry 6. -/
opaque base : Nat

/-- `zeroize_ok`: the outcome of the read-back check of a WIPE, a free Boolean for each WIPE, indexed
by the draws already taken (43_control_ops.md R201, 93_implementation_defined.md U4). Log entry 4. -/
opaque zeroizeOk : Nat → Bool

/-- What hidden state holds after the WIPE that halts: any value (93_implementation_defined.md U5,
60_exceptions.md R225). The first argument numbers the WIPE, the second the element. Log entry 5. -/
opaque haltResidue : Nat → Nat → Word

end Sys2Proof.Config
end

