-- ==== Sys2Proof/Machine/Ops.lean ====
section
/-! DEFINITION. The operations the commands share: failing (the core's trap entry, 60_exceptions.md
R218), clearing the code (its trap return, R219), the fail-stop (R225), the checks of a command
(30_encoding.md R105), and the zeroing of secrets (10_state.md R33, R45). -/

namespace Sys2Proof.Machine

/-- The failure causes (60_exceptions.md R212). -/
inductive Err where
  | badCmd
  | keyLen
  | zeroLen
  | badLen
  | noKey
  | noStream
  | keyBusy
  deriving DecidableEq, Repr

/-- The status code of a cause, -1 to -7 as a 32-bit two's-complement number (R212). -/
def Err.code : Err → Word
  | .badCmd => 0xFFFFFFFF
  | .keyLen => 0xFFFFFFFE
  | .zeroLen => 0xFFFFFFFD
  | .badLen => 0xFFFFFFFC
  | .noKey => 0xFFFFFFFB
  | .noStream => 0xFFFFFFFA
  | .keyBusy => 0xFFFFFFF9

/-- `ERR <- code` and nothing else: what a failure does, the core's trap entry (R218). -/
def fail (s : State) (e : Err) : State := { s with err := e.code }

/-- `ERR <- 0`: what a completed command does, the core's only way back from a failure (R219). -/
def succeed (s : State) : State := { s with err := 0 }

/-- `KEY[0..3] <- 0` (10_state.md R33). -/
def zeroKey (s : State) : State := { s with key := Vector.replicate 4 0 }

/-- The failure of a command that decoded as SETKEY also zeroes `KEY` (R218). -/
def failZeroKey (s : State) (e : Err) : State := fail (zeroKey s) e

/-- One command (30_encoding.md R105): ignored while `HALT = 1` (step 0); the first failing check
decides (steps 2 and 3, the argument `failing`); otherwise the operation's effect takes place, whole
and at once (20_memory.md R69). -/
def command (s : State) (failing : Option Err) (onFail : State → Err → State)
    (effect : State → State) : Host.Outcome State Fault Refusal :=
  if s.halt then .next s
  else
    match failing with
    | some e => .next (onFail s e)
    | none => .next (effect s)

/-- Length check of the operations without a length operand: `LEN` must be 0 (R105 step 2). -/
def lenZero (len : Nat) : Option Err := if len = 0 then none else some .badLen

/-- Length check of SETKEY: only a 16-byte key (R105 step 2, 40_key_schedule.md R130). -/
def lenKey (len : Nat) : Option Err := if len = 16 then none else some .keyLen

/-- Length check of CFBDEC: 1 to 8 bytes (R105 step 2, 42_cfb_engine.md R174). -/
def lenChunk (len : Nat) : Option Err :=
  if len = 0 then some .zeroLen else if len ≤ 8 then none else some .badLen

/-- State check of ENCBLK, DECBLK, CFBINIT: a valid key (R105 step 3). -/
def needKey (s : State) : Option Err := if s.sched.kv then none else some .noKey

/-- State check of CFBDEC, CFBEND: an active stream (R105 step 3). -/
def needStream (s : State) : Option Err := if s.cfb.cfba then none else some .noStream

/-- State check of SETKEY: no active stream (R105 step 3). -/
def needIdle (s : State) : Option Err := if s.cfb.cfba then some .keyBusy else none

/-- Every element of the core at zero, as after reset (10_state.md R45); the model's own fields stay. -/
def zeroCore (s : State) : State :=
  { s with
    sched := KeySchedule.zero, cfb := CfbState.zero, key := Vector.replicate 4 0,
    din := Vector.replicate 2 0, dout := Vector.replicate 2 0, err := 0, halt := false }

/-- Step 1 of WIPE, the explicit zero: every element but `ERR` and `HALT` (43_control_ops.md R201). -/
def zeroSecrets (s : State) : State :=
  { s with
    sched := KeySchedule.zero, cfb := CfbState.zero, key := Vector.replicate 4 0,
    din := Vector.replicate 2 0, dout := Vector.replicate 2 0 }

/-- What the key schedule holds once WIPE number `n` has halted: any value (U5; log entry 5). -/
def residueSched (n : Nat) : KeySchedule where
  km := Vector.ofFn fun i : Fin 16 => Config.haltResidue n i.val
  kr := Vector.ofFn fun i : Fin 16 => (Config.haltResidue n (16 + i.val)).setWidth 5
  kv := (Config.haltResidue n 32).getLsbD 0

/-- What the stream state holds once WIPE number `n` has halted: any value (U5; log entry 5). -/
def residueCfb (n : Nat) : CfbState where
  fr := Vector.ofFn fun i : Fin 8 => (Config.haltResidue n (33 + i.val)).setWidth 8
  ks := Vector.ofFn fun i : Fin 8 => (Config.haltResidue n (41 + i.val)).setWidth 8
  cb := Vector.ofFn fun i : Fin 8 => (Config.haltResidue n (49 + i.val)).setWidth 8
  pos := Fin.ofNat 8 (Config.haltResidue n 57).toNat
  pfx := Fin.ofNat 11 (Config.haltResidue n 58).toNat
  pb := Vector.ofFn fun i : Fin 4 => (Config.haltResidue n (59 + i.val)).setWidth 8
  cfba := (Config.haltResidue n 63).getLsbD 0
  qcdone := (Config.haltResidue n 64).getLsbD 0
  qcfail := (Config.haltResidue n 65).getLsbD 0

/-- The fail-stop of WIPE number `n` (60_exceptions.md R225): `HALT <- 1`, `ERR` not updated, and the
elements whose zeroing could not be confirmed hold any value. -/
def haltCore (n : Nat) (s : State) : State :=
  { s with
    sched := residueSched n, cfb := residueCfb n,
    key := Vector.ofFn fun i : Fin 4 => Config.haltResidue n (66 + i.val),
    din := Vector.ofFn fun i : Fin 2 => Config.haltResidue n (70 + i.val),
    dout := Vector.ofFn fun i : Fin 2 => Config.haltResidue n (72 + i.val),
    halt := true }

end Sys2Proof.Machine
end

