-- ==== Sys2Proof/Machine/BlockCipher.lean ====
section
/-! DEFINITION. The round functions, the two block functions, ENCBLK and DECBLK (41_block_cipher.md
R150 to R159). -/

namespace Sys2Proof.Machine

/-- Type 1 (R151): the subkey is added to the data; exclusive-or, subtraction, addition. -/
def roundType1 (km : Word) (kr : BitVec 5) (d : Word) : Word :=
  let i := rol32 (km + d) kr.toNat
  ((S1 (byteOf i 0) ^^^ S2 (byteOf i 1)) - S3 (byteOf i 2)) + S4 (byteOf i 3)

/-- Type 2 (R152): the subkey is exclusive-ored with the data; subtraction, addition, exclusive-or. -/
def roundType2 (km : Word) (kr : BitVec 5) (d : Word) : Word :=
  let i := rol32 (km ^^^ d) kr.toNat
  ((S1 (byteOf i 0) - S2 (byteOf i 1)) + S3 (byteOf i 2)) ^^^ S4 (byteOf i 3)

/-- Type 3 (R153): the data is subtracted from the subkey; addition, exclusive-or, subtraction. -/
def roundType3 (km : Word) (kr : BitVec 5) (d : Word) : Word :=
  let i := rol32 (km - d) kr.toNat
  ((S1 (byteOf i 0) + S2 (byteOf i 1)) ^^^ S3 (byteOf i 2)) - S4 (byteOf i 3)

/-- `F(i, D)` (R150): the variant is chosen by `i mod 3`. -/
def roundF (k : KeySchedule) (i : Fin 16) (d : Word) : Word :=
  match i.val % 3 with
  | 0 => roundType1 k.km[i] k.kr[i] d
  | 1 => roundType2 k.km[i] k.kr[i] d
  | _ => roundType3 k.km[i] k.kr[i] d

/-- One Feistel round: `(L, R) <- (R, L ^ F(i, R))`, simultaneously (R154). -/
def feistelRound (k : KeySchedule) (h : Word × Word) (i : Fin 16) : Word × Word :=
  (h.2, h.1 ^^^ roundF k i h.2)

/-- The round numbers 0 to 15, in the order of encryption (R150). -/
def roundNumbers : List (Fin 16) := [0, 1, 2, 3, 4, 5, 6, 7, 8, 9, 10, 11, 12, 13, 14, 15]

/-- The halves of a block, `L` the first four bytes (R154, 00_scope.md R10). -/
def halves (b : Block) : Word × Word := (be32 b[0] b[1] b[2] b[3], be32 b[4] b[5] b[6] b[7])

/-- The output of a block function, the halves exchanged: `R` first (R154). -/
def exchanged (h : Word × Word) : Block := pairBytes #v[h.2, h.1]

/-- A block function: the rounds in the given order between the packing and the exchange. -/
def blockFunction (k : KeySchedule) (order : List (Fin 16)) (b : Block) : Block :=
  exchanged (order.foldl (feistelRound k) (halves b))

/-- `Encrypt(b)` (R154): rounds 0 to 15. -/
def encrypt (k : KeySchedule) (b : Block) : Block := blockFunction k roundNumbers b

/-- `Decrypt(b)` (R155): rounds 15 down to 0. -/
def decrypt (k : KeySchedule) (b : Block) : Block := blockFunction k roundNumbers.reverse b

/-- ENCBLK (R156). -/
def execEncblk (len : Nat) (s : State) : Host.Outcome State Fault Refusal :=
  command s ((lenZero len).or (needKey s)) fail fun s =>
    succeed (putResult s (encrypt s.sched (blockOperand s)))

/-- DECBLK (R157). -/
def execDecblk (len : Nat) (s : State) : Host.Outcome State Fault Refusal :=
  command s ((lenZero len).or (needKey s)) fail fun s =>
    succeed (putResult s (decrypt s.sched (blockOperand s)))

end Sys2Proof.Machine
end

