-- ==== Sys2Proof/Machine/Cfb.lean ====
section
/-! DEFINITION. The CFB decryption engine: CFBINIT, CFBDEC, CFBEND (42_cfb_engine.md R170 to R178). -/

namespace Sys2Proof.Machine

/-- The stream a CFBINIT starts (R170): the feedback register is the IV, nothing is consumed, no
quick check has been made. -/
def startStream (iv : Block) : CfbState :=
  { CfbState.zero with fr := iv, cfba := true }

/-- First part of `CfbByte` (R171): at the start of a block the keystream is the enciphered feedback
register; the forward function, never `Decrypt` (90_conflicts.md C1). -/
def loadKeystream (k : KeySchedule) (t : CfbState) : CfbState :=
  if t.pos = 0 then { t with ks := encrypt k t.fr } else t

/-- Middle part of `CfbByte` (R171): the byte enters `CB`; the eighth byte completes the block, which
becomes the feedback register, and `CB`, `KS` are zeroed (92_eei_decisions.md D6). -/
def consumeByte (c : Byte) (t : CfbState) : CfbState :=
  if h : t.pos.val = 7 then
    { t with fr := t.cb.set 7 c, cb := zeroBlock, ks := zeroBlock, pos := 0 }
  else
    { t with cb := t.cb.set t.pos.val c, pos := ⟨t.pos.val + 1, by omega⟩ }

/-- `Resync()` (R173): `FR <- FR[2..7] ++ CB[0..1]`, and a fresh block begins. -/
def resync (t : CfbState) : CfbState :=
  { t with
    fr := #v[t.fr[2], t.fr[3], t.fr[4], t.fr[5], t.fr[6], t.fr[7], t.cb[0], t.cb[1]],
    cb := zeroBlock, ks := zeroBlock, pos := 0 }

/-- The quick check on the four kept prefix bytes (R172): a mismatch of either pair. -/
def quickCheckFails (pb : Vector Byte 4) : Bool := pb[0] != pb[2] || pb[1] != pb[3]

/-- `Prefix(p)` (R172): keep the plaintext bytes of index 6 to 9, count, and after the tenth make the
quick check and resynchronise. Once the prefix is over it does nothing (R171). -/
def notePrefix (p : Byte) (t : CfbState) : CfbState :=
  if h : t.pfx.val < 10 then
    let pb := if 6 ≤ t.pfx.val then t.pb.set (t.pfx.val - 6) p (by omega) else t.pb
    let t' := { t with pb := pb, pfx := ⟨t.pfx.val + 1, by omega⟩ }
    if t.pfx.val + 1 = 10 then
      resync { t' with qcfail := quickCheckFails pb, qcdone := true }
    else t'
  else t

/-- `CfbByte(c)` (R171): the state after one ciphertext byte, and its plaintext byte. -/
def cfbByte (k : KeySchedule) (c : Byte) (t : CfbState) : CfbState × Byte :=
  let t1 := loadKeystream k t
  let p := c ^^^ t1.ks[t1.pos]
  (notePrefix p (consumeByte c t1), p)

/-- `CfbByte` over the bytes of a chunk, in ascending order (R174). -/
def cfbBytes (k : KeySchedule) : List Byte → CfbState → CfbState × List Byte
  | [], t => (t, [])
  | c :: cs, t =>
    let r := cfbByte k c t
    let rs := cfbBytes k cs r.1
    (rs.1, r.2 :: rs.2)

/-- The effect of CFBDEC on `n` bytes of `DIN` (R174). -/
def decryptChunk (n : Nat) (s : State) : State :=
  let r := cfbBytes s.sched (chunkOperand s n) s.cfb
  putChunk { s with cfb := r.1 } r.2

/-- The stream state CFBEND leaves (R175): all zero but `QCDONE` and `QCFAIL`, which are kept. -/
def endStream (t : CfbState) : CfbState :=
  { CfbState.zero with qcdone := t.qcdone, qcfail := t.qcfail }

/-- CFBINIT (R170). -/
def execCfbinit (len : Nat) (s : State) : Host.Outcome State Fault Refusal :=
  command s ((lenZero len).or (needKey s)) fail fun s =>
    succeed { s with cfb := startStream (blockOperand s) }

/-- CFBDEC (R174). -/
def execCfbdec (len : Nat) (s : State) : Host.Outcome State Fault Refusal :=
  command s ((lenChunk len).or (needStream s)) fail fun s => succeed (decryptChunk len s)

/-- CFBEND (R175). -/
def execCfbend (len : Nat) (s : State) : Host.Outcome State Fault Refusal :=
  command s ((lenZero len).or (needStream s)) fail fun s =>
    succeed { s with cfb := endStream s.cfb }

end Sys2Proof.Machine
end

