-- ==== Sys2Proof/Machine/Control.lean ====
section
/-! DEFINITION. The control commands NOP and WIPE (43_control_ops.md R200, R201). -/

namespace Sys2Proof.Machine

/-- The effect of WIPE for an outcome `ok` of its zero-verification (R201): after the explicit zero,
success, or the fail-stop. Either way one draw has been taken. -/
def wipeWith (ok : Bool) (s : State) : State :=
  let s' := { zeroSecrets s with wipes := s.wipes + 1 }
  if ok then succeed s' else haltCore s.wipes s'

/-- NOP (R200). -/
def execNop (len : Nat) (s : State) : Host.Outcome State Fault Refusal :=
  command s (lenZero len) fail succeed

/-- WIPE (R201); the outcome of the verification is the free value `zeroize_ok` of this WIPE (U4). -/
def execWipe (len : Nat) (s : State) : Host.Outcome State Fault Refusal :=
  command s (lenZero len) fail fun s => wipeWith (Config.zeroizeOk s.wipes) s

end Sys2Proof.Machine
end

