-- ==== Sys2Proof/Machine/KeySchedule.lean ====
section
/-! DEFINITION. The key schedule and SETKEY (40_key_schedule.md R130 to R134). -/

namespace Sys2Proof.Machine

/-- A scratch array of 16 bytes, `x[0..F]` or `z[0..F]` (R131). -/
abbrev Scratch := Vector Byte 16

/-- `v[a..a+3]` read as a word (R131). -/
def wordAt (v : Scratch) (a : Nat) (h : a + 3 < 16 := by decide) : Word :=
  be32 v[a] v[a + 1] v[a + 2] v[a + 3]

/-- The four words a group of block lines stores, each most significant byte first, at offsets 0, 4, 8
and C (R131). -/
def ofWords (w0 w4 w8 wC : Word) : Scratch :=
  #v[byteOf w0 0, byteOf w0 1, byteOf w0 2, byteOf w0 3,
     byteOf w4 0, byteOf w4 1, byteOf w4 2, byteOf w4 3,
     byteOf w8 0, byteOf w8 1, byteOf w8 2, byteOf w8 3,
     byteOf wC 0, byteOf wC 1, byteOf wC 2, byteOf wC 3]

/-- The four lines that compute `z` from `x` (R131). Each line uses the bytes of `z` that the lines
before it have stored: `z0` is byte 0 of the word stored at `z[0..3]`, and so on. -/
def zFromX (x : Scratch) : Scratch :=
  let z03 := wordAt x 0x0 ^^^ S5 x[0xD] ^^^ S6 x[0xF] ^^^ S7 x[0xC] ^^^ S8 x[0xE] ^^^ S7 x[0x8]
  let z47 := wordAt x 0x8 ^^^ S5 (byteOf z03 0) ^^^ S6 (byteOf z03 2) ^^^ S7 (byteOf z03 1)
    ^^^ S8 (byteOf z03 3) ^^^ S8 x[0xA]
  let z8B := wordAt x 0xC ^^^ S5 (byteOf z47 3) ^^^ S6 (byteOf z47 2) ^^^ S7 (byteOf z47 1)
    ^^^ S8 (byteOf z47 0) ^^^ S5 x[0x9]
  let zCF := wordAt x 0x4 ^^^ S5 (byteOf z8B 2) ^^^ S6 (byteOf z8B 1) ^^^ S7 (byteOf z8B 3)
    ^^^ S8 (byteOf z8B 0) ^^^ S6 x[0xB]
  ofWords z03 z47 z8B zCF

/-- The four lines that compute `x` from `z` (R131), as `zFromX`. -/
def xFromZ (z : Scratch) : Scratch :=
  let x03 := wordAt z 0x8 ^^^ S5 z[0x5] ^^^ S6 z[0x7] ^^^ S7 z[0x4] ^^^ S8 z[0x6] ^^^ S7 z[0x0]
  let x47 := wordAt z 0x0 ^^^ S5 (byteOf x03 0) ^^^ S6 (byteOf x03 2) ^^^ S7 (byteOf x03 1)
    ^^^ S8 (byteOf x03 3) ^^^ S8 z[0x2]
  let x8B := wordAt z 0x4 ^^^ S5 (byteOf x47 3) ^^^ S6 (byteOf x47 2) ^^^ S7 (byteOf x47 1)
    ^^^ S8 (byteOf x47 0) ^^^ S5 z[0x1]
  let xCF := wordAt z 0xC ^^^ S5 (byteOf x8B 2) ^^^ S6 (byteOf x8B 1) ^^^ S7 (byteOf x8B 3)
    ^^^ S8 (byteOf x8B 0) ^^^ S6 z[0x3]
  ofWords x03 x47 x8B xCF

/-- `K[1..4]`, and `K[17..20]` of the second pass, from `z` (R131). -/
def kFirst (z : Scratch) : Vector Word 4 :=
  #v[S5 z[0x8] ^^^ S6 z[0x9] ^^^ S7 z[0x7] ^^^ S8 z[0x6] ^^^ S5 z[0x2],
     S5 z[0xA] ^^^ S6 z[0xB] ^^^ S7 z[0x5] ^^^ S8 z[0x4] ^^^ S6 z[0x6],
     S5 z[0xC] ^^^ S6 z[0xD] ^^^ S7 z[0x3] ^^^ S8 z[0x2] ^^^ S7 z[0x9],
     S5 z[0xE] ^^^ S6 z[0xF] ^^^ S7 z[0x1] ^^^ S8 z[0x0] ^^^ S8 z[0xC]]

/-- `K[5..8]`, and `K[21..24]` of the second pass, from `x` (R131). -/
def kSecond (x : Scratch) : Vector Word 4 :=
  #v[S5 x[0x3] ^^^ S6 x[0x2] ^^^ S7 x[0xC] ^^^ S8 x[0xD] ^^^ S5 x[0x8],
     S5 x[0x1] ^^^ S6 x[0x0] ^^^ S7 x[0xE] ^^^ S8 x[0xF] ^^^ S6 x[0xD],
     S5 x[0x7] ^^^ S6 x[0x6] ^^^ S7 x[0x8] ^^^ S8 x[0x9] ^^^ S7 x[0x3],
     S5 x[0x5] ^^^ S6 x[0x4] ^^^ S7 x[0xA] ^^^ S8 x[0xB] ^^^ S8 x[0x7]]

/-- `K[9..12]`, and `K[25..28]` of the second pass, from `z` (R131). -/
def kThird (z : Scratch) : Vector Word 4 :=
  #v[S5 z[0x3] ^^^ S6 z[0x2] ^^^ S7 z[0xC] ^^^ S8 z[0xD] ^^^ S5 z[0x9],
     S5 z[0x1] ^^^ S6 z[0x0] ^^^ S7 z[0xE] ^^^ S8 z[0xF] ^^^ S6 z[0xC],
     S5 z[0x7] ^^^ S6 z[0x6] ^^^ S7 z[0x8] ^^^ S8 z[0x9] ^^^ S7 z[0x2],
     S5 z[0x5] ^^^ S6 z[0x4] ^^^ S7 z[0xA] ^^^ S8 z[0xB] ^^^ S8 z[0x6]]

/-- `K[13..16]`, and `K[29..32]` of the second pass, from `x` (R131). -/
def kFourth (x : Scratch) : Vector Word 4 :=
  #v[S5 x[0x8] ^^^ S6 x[0x9] ^^^ S7 x[0x7] ^^^ S8 x[0x6] ^^^ S5 x[0x3],
     S5 x[0xA] ^^^ S6 x[0xB] ^^^ S7 x[0x5] ^^^ S8 x[0x4] ^^^ S6 x[0x7],
     S5 x[0xC] ^^^ S6 x[0xD] ^^^ S7 x[0x3] ^^^ S8 x[0x2] ^^^ S7 x[0x8],
     S5 x[0xE] ^^^ S6 x[0xF] ^^^ S7 x[0x1] ^^^ S8 x[0x0] ^^^ S8 x[0xD]]

/-- One pass of the 32 lines of R131: sixteen words, and the `x` the next pass begins with. -/
def expandPass (x : Scratch) : Vector Word 16 × Scratch :=
  let z1 := zFromX x
  let x1 := xFromZ z1
  let z2 := zFromX x1
  let x2 := xFromZ z2
  (kFirst z1 ++ kSecond x1 ++ kThird z2 ++ kFourth x2, x2)

/-- `Expand(k)` (R131): the words `K[1..32]`, `K[n]` at index `n - 1` (R133). The second pass goes on
with the `x` the first has left. -/
def expand (k : Vector Byte 16) : Vector Word 32 :=
  let p := expandPass k
  p.1 ++ (expandPass p.2).1

/-- Subkey extraction (R132): `Km[i] = K[i + 1]`, `Kr[i] = K[i + 17] mod 32`; the schedule is valid. -/
def scheduleOf (k : Vector Byte 16) : KeySchedule :=
  let kk := expand k
  { km := Vector.ofFn fun i : Fin 16 => kk[i.val]
    kr := Vector.ofFn fun i : Fin 16 => (kk[i.val + 16]).setWidth 5
    kv := true }

/-- `Km`, `Kr <- Expand(KEY)`, `KV <- 1` (R130). -/
def installKey (s : State) : State := { s with sched := scheduleOf (keyOperand s) }

/-- SETKEY (R130). -/
def execSetkey (len : Nat) (s : State) : Host.Outcome State Fault Refusal :=
  command s ((lenKey len).or (needIdle s)) failZeroKey fun s => succeed (zeroKey (installKey s))

end Sys2Proof.Machine
end

