-- ==== Sys2Proof/Machine/Dispatch.lean ====
section
/-! DEFINITION. One arm per command, each a direct call of its meaning. -/

namespace Sys2Proof.Machine

/-- The meaning of a decoded command (30_encoding.md R103, R105). -/
def exec (i : Instr) (s : State) : Host.Outcome State Fault Refusal :=
  match i with
  | .nop len => Sys2Proof.Machine.execNop len s
  | .setkey len => Sys2Proof.Machine.execSetkey len s
  | .encblk len => Sys2Proof.Machine.execEncblk len s
  | .decblk len => Sys2Proof.Machine.execDecblk len s
  | .cfbinit len => Sys2Proof.Machine.execCfbinit len s
  | .cfbdec len => Sys2Proof.Machine.execCfbdec len s
  | .cfbend len => Sys2Proof.Machine.execCfbend len s
  | .wipe len => Sys2Proof.Machine.execWipe len s

end Sys2Proof.Machine
end

