-- ==== Sys2Proof/Machine/Flags.lean ====
section
/-! DEFINITION. The status flags and the STATUS view (10_state.md R37, R42). The core has no
arithmetic condition code (R42). -/

namespace Sys2Proof.Machine

/-- `ERRF`: 1 if `ERR != 0` (R37). -/
def errf (s : State) : Bool := s.err != 0

/-- The fields of STATUS outside the fail-stop, from bit 31 down: reserved (16 bits), `PFX` (4),
reserved (1), `POS` (3), reserved (2), `HALT`, `ERRF`, `QCFAIL`, `QCDONE`, `CFBA`, `KV` (R37). -/
def statusFields (s : State) : Word :=
  (0 : BitVec 16) ++ BitVec.ofNat 4 s.cfb.pfx.val ++ (0 : BitVec 1) ++ BitVec.ofNat 3 s.cfb.pos.val
    ++ (0 : BitVec 2) ++ BitVec.ofBool s.halt ++ BitVec.ofBool (errf s)
    ++ BitVec.ofBool s.cfb.qcfail ++ BitVec.ofBool s.cfb.qcdone ++ BitVec.ofBool s.cfb.cfba
    ++ BitVec.ofBool s.sched.kv

/-- What a read of STATUS returns: exactly `0x00000020` while `HALT = 1`, whatever the other elements
hold (R37, 60_exceptions.md R225). -/
def statusWord (s : State) : Word := if s.halt then 0x00000020 else statusFields s

end Sys2Proof.Machine
end

