-- ==== Sys2Proof/Machine/Bus.lean ====
section
/-! DEFINITION. The host register space: the register map and what an access does (20_memory.md R63 to
R65; 43_control_ops.md R202; 70_reset_and_hazards.md R250). -/

namespace Sys2Proof.Machine

/-- The byte offset of a register (20_memory.md R63). -/
def Reg.offset : Reg → Nat
  | .cmd => 0x00
  | .status => 0x04
  | .err => 0x08
  | .key j => 0x10 + 4 * j.val
  | .din j => 0x20 + 4 * j.val
  | .dout j => 0x28 + 4 * j.val

/-- The register at a byte offset; `none` at the reserved offsets 0x0C, 0x30..0x3C (20_memory.md R63). -/
def regAt (off : Nat) : Option Reg :=
  match off with
  | 0x00 => some .cmd
  | 0x04 => some .status
  | 0x08 => some .err
  | 0x10 => some (.key 0)
  | 0x14 => some (.key 1)
  | 0x18 => some (.key 2)
  | 0x1C => some (.key 3)
  | 0x20 => some (.din 0)
  | 0x24 => some (.din 1)
  | 0x28 => some (.dout 0)
  | 0x2C => some (.dout 1)
  | _ => none

/-- The bus address of a register: the platform's base address and the offset (20_memory.md R63). No
rule depends on it (92_eei_decisions.md D1). -/
def Reg.busAddress (r : Reg) : Nat := Config.base + r.offset

/-- The accesses without a meaning (20_memory.md R64): narrower than a word, misaligned, or outside
0x00..0x3C. Of several defects the first named here is reported (log entry 7). -/
def undefinedAccess (width : Width) (off : Nat) : Option Refusal :=
  if width ≠ .word then some .narrowAccess
  else if off % 4 ≠ 0 then some .misalignedAccess
  else if 0x40 ≤ off then some .outsideRegisters
  else none

/-- What a read of a register returns outside the fail-stop: write-only registers read 0
(20_memory.md R65, 43_control_ops.md R202). -/
def readReg (s : State) : Reg → Word
  | .cmd => 0
  | .status => statusWord s
  | .err => s.err
  | .key _ => 0
  | .din j => s.din[j]
  | .dout j => s.dout[j]

/-- `RegRead(off)` (20_memory.md R65): reserved offsets read 0; while `HALT = 1` everything reads 0 but
STATUS (60_exceptions.md R225). -/
def regRead (s : State) (off : Nat) : Word :=
  match regAt off with
  | none => 0
  | some r => if s.halt ∧ r ≠ .status then 0 else readReg s r

/-- A write of CMD is the command (10_state.md R36): an undecodable word fails with `E_BADCMD` and
changes nothing else (30_encoding.md R104), any other executes. -/
def cmdWrite (s : State) (w : Word) : Host.Outcome State Fault Refusal :=
  match decode w with
  | .error _ => command s (some .badCmd) fail id
  | .ok i => exec i s

/-- A write of a named register outside the fail-stop (20_memory.md R65): `KEY` and `DIN` store, CMD
executes, read-only registers ignore it. -/
def writeReg (s : State) (v : Word) : Reg → Host.Outcome State Fault Refusal
  | .cmd => cmdWrite s v
  | .status => .next s
  | .err => .next s
  | .key j => .next { s with key := s.key.set j v }
  | .din j => .next { s with din := s.din.set j v }
  | .dout _ => .next s

/-- `RegWrite(off, v)` (20_memory.md R65): reserved offsets ignore it, and while `HALT = 1` so does
every register (60_exceptions.md R225). -/
def regWrite (s : State) (off : Nat) (v : Word) : Host.Outcome State Fault Refusal :=
  if s.halt then .next s
  else
    match regAt off with
    | none => .next s
    | some r => writeReg s v r

/-- One input taken by the core (00_scope.md R6). A read changes no state of the core; its value goes
back to the host (log entry 3). A reset zeroes every element (70_reset_and_hazards.md R250). -/
def accept (i : Input) (s : State) : Host.Outcome State Fault Refusal :=
  match i with
  | .read width off =>
    match undefinedAccess width off with
    | some r => .refused r
    | none => .next { s with returned := regRead s off :: s.returned }
  | .write width off v =>
    match undefinedAccess width off with
    | some r => .refused r
    | none => regWrite s off v
  | .reset => .next (zeroCore s)

/-- The next input and the state once it has been taken from the list (20_memory.md R70). -/
def takeInput (s : State) : Option (Input × State) :=
  match s.inputs with
  | [] => none
  | i :: rest => some (i, { s with inputs := rest })

/-- A host write of CMD. -/
def cmdInput (w : Word) : Input := .write .word (Reg.offset .cmd) w

end Sys2Proof.Machine
end

