-- ==== Sys2Proof/Machine/Step.lean ====
section
/-! DEFINITION. One step: the core answers the next input; with none pending it waits. -/

namespace Sys2Proof.Machine

/-- One step of the machine (00_scope.md R6): the next host access, whole, in the order the host issues
them (20_memory.md R69, R70). With no access pending the core "simply waits for the next register
access" (60_exceptions.md R218): the state stays as it is (log entry 2). -/
def step (s : State) : Host.Outcome State Fault Refusal :=
  match takeInput s with
  | none => .next s
  | some (i, s') => accept i s'

/-- `s` with the command word `w` as the host's next access: a write of CMD placed before the inputs
already pending (the core fetches nothing itself, 10_state.md R41; log entry 1). -/
def State.withFetchWord (s : State) (nbits w : Nat) : State :=
  { s with inputs := cmdInput (BitVec.ofNat 32 (w % 2 ^ nbits)) :: s.inputs }

end Sys2Proof.Machine
end

