-- ==== Sys2Proof/Machine/Script.lean ====
section
/-! DEFINITION. The script lines and pseudo-operations of the spec, as lists of inputs (30_encoding.md
R107, R108). They are notation for what a host does (92_eei_decisions.md D8); the core knows nothing
of them. -/

namespace Sys2Proof.Machine

/-- `WR <reg>, <word>` (R107). -/
def scriptWr (r : Reg) (v : Word) : Input := .write .word r.offset v

/-- `RD <reg>` (R107). -/
def scriptRd (r : Reg) : Input := .read .word r.offset

/-- The four `WR KEYj` of a key, missing bytes zero (R107). -/
def scriptKey (k : List Byte) : List Input :=
  (List.finRange 4).map fun j =>
    scriptWr (.key j) (be32 (k.getD (4 * j.val) 0) (k.getD (4 * j.val + 1) 0)
      (k.getD (4 * j.val + 2) 0) (k.getD (4 * j.val + 3) 0))

/-- `WR DIN0`, `WR DIN1` with the given bytes, zero after them (R107). -/
def scriptDin (bs : List Byte) : List Input :=
  let r := bytesPair (padBlock bs)
  [scriptWr (.din 0) r[0], scriptWr (.din 1) r[1]]

/-- `RD DOUT0`, `RD DOUT1`. -/
def scriptResult : List Input := [scriptRd (.dout 0), scriptRd (.dout 1)]

/-- `NOP` (R107). -/
def scriptNop : List Input := [cmdInput (encode (.nop 0))]

/-- `SETKEY <hex>` (R107). -/
def scriptSetkey (k : List Byte) : List Input := scriptKey k ++ [cmdInput (encode (.setkey 16))]

/-- `SETKEY.n <LEN> <hex>` (R107). -/
def scriptSetkeyN (len : Nat) (k : List Byte) : List Input :=
  scriptKey k ++ [cmdInput (encode (.setkey len))]

/-- `ENCBLK <hex>` (R107). -/
def scriptEncblk (b : List Byte) : List Input := scriptDin b ++ [cmdInput (encode (.encblk 0))]

/-- `DECBLK <hex>` (R107). -/
def scriptDecblk (b : List Byte) : List Input := scriptDin b ++ [cmdInput (encode (.decblk 0))]

/-- `CFBINIT <hex>` (R107). -/
def scriptCfbinit (iv : List Byte) : List Input := scriptDin iv ++ [cmdInput (encode (.cfbinit 0))]

/-- `CFBDEC <hex>` (R107): as many bytes as given. -/
def scriptCfbdec (cs : List Byte) : List Input :=
  scriptDin cs ++ [cmdInput (encode (.cfbdec cs.length))]

/-- `CFBEND` (R107). -/
def scriptCfbend : List Input := [cmdInput (encode (.cfbend 0))]

/-- `WIPE` (R107). -/
def scriptWipe : List Input := [cmdInput (encode (.wipe 0))]

/-- Consecutive chunks of 8 bytes, the last one shorter (R108); `fuel` bounds their number. -/
def chunksOf8 : Nat → List Byte → List (List Byte)
  | 0, _ => []
  | _ + 1, [] => []
  | fuel + 1, b :: bs => (b :: bs).take 8 :: chunksOf8 fuel ((b :: bs).drop 8)

/-- `CFBSTREAM <hex>` (R108): one CFBDEC per chunk, each followed by the reads of its result. -/
def scriptCfbstream (cs : List Byte) : List Input :=
  (chunksOf8 cs.length cs).flatMap fun c => scriptCfbdec c ++ scriptResult

/-- `DECRYPT key= iv= ct=` (R108). -/
def scriptDecrypt (k iv ct : List Byte) : List Input :=
  scriptSetkey k ++ scriptCfbinit iv ++ scriptCfbstream ct ++ [scriptRd .status] ++ scriptCfbend
    ++ scriptWipe

/-- `KAT key= pt=` up to the first pair of reads (R108). -/
def scriptKatFirst (k pt : List Byte) : List Input :=
  scriptSetkey k ++ scriptEncblk pt ++ scriptResult

/-- The rest of `KAT` (R108), given the 8 bytes just read. -/
def scriptKatRest (o : List Byte) : List Input := scriptDecblk o ++ scriptResult ++ scriptWipe

end Sys2Proof.Machine
end

