-- ==== Sys2Proof/Safety.lean ====
section
/-! DEFINITION. The terms claims use: the coarse states (60_exceptions.md R230), the invariants of a
state that has not halted (10_state.md R44), what the host may see and what stays hidden (10_state.md
R20), feeding a stream in chunks, and the software producer of a ciphertext (95_test_vectors.md
section 3). -/

namespace Sys2Proof.Machine

/-- The coarse states of the core (60_exceptions.md R230). -/
inductive Coarse where
  | idle
  | keyed
  | stream
  | halted
  deriving DecidableEq, Repr

/-- The coarse state of a state (60_exceptions.md R230). `KV = 0` with `CFBA = 1`, which no run reaches
(10_state.md R44 (b)), counts as `stream`. -/
def coarse (s : State) : Coarse :=
  if s.halt then .halted
  else if s.cfb.cfba then .stream
  else if s.sched.kv then .keyed
  else .idle

/-- The codes `ERR` can hold (60_exceptions.md R212). -/
abbrev errCodes : List Word :=
  [0x00000000, 0xFFFFFFFF, 0xFFFFFFFE, 0xFFFFFFFD, 0xFFFFFFFC, 0xFFFFFFFB, 0xFFFFFFFA, 0xFFFFFFF9]

/-- 10_state.md R44 (b) and (d): a stream has a key, and without a key the schedule is zero. -/
abbrev KeyInv (s : State) : Prop :=
  (s.cfb.cfba = true → s.sched.kv = true) ∧ (s.sched.kv = false → s.sched = KeySchedule.zero)

/-- 10_state.md R44 (c): without a stream the stream state is zero, but for the kept quick check. -/
abbrev NoStreamInv (t : CfbState) : Prop :=
  t.cfba = false →
    t.pos = 0 ∧ t.pfx = 0 ∧ t.fr = zeroBlock ∧ t.ks = zeroBlock ∧ t.cb = zeroBlock ∧
      t.pb = Vector.replicate 4 0

/-- 10_state.md R44 (e) and (f): when the quick check has been made. -/
abbrev QuickCheckInv (t : CfbState) : Prop :=
  (t.qcfail = true → t.qcdone = true) ∧
    (t.cfba = true → (t.qcdone = true ↔ t.pfx.val = 10))

/-- 10_state.md R44 (g): where in a block the prefix stands. -/
abbrev PrefixInv (t : CfbState) : Prop :=
  (t.cfba = true → t.pfx.val ≤ 8 → t.pos.val = t.pfx.val % 8) ∧
    (t.cfba = true → t.pfx.val = 9 → t.pos.val = 1)

/-- 10_state.md R44 (i): the canonical hidden state. -/
abbrev CanonicalInv (t : CfbState) : Prop :=
  (∀ j : Fin 8, t.pos ≤ j → t.cb[j] = 0) ∧ (t.pos = 0 → t.ks = zeroBlock)

/-- The invariants of a state that has not halted (10_state.md R44; (a) holds by the types of the
fields, the first half of (h) by the definition of `errf`, and (j) speaks of runs). -/
abbrev LiveInv (s : State) : Prop :=
  KeyInv s ∧ NoStreamInv s.cfb ∧ QuickCheckInv s.cfb ∧ PrefixInv s.cfb ∧ CanonicalInv s.cfb ∧
    s.err ∈ errCodes

/-- The invariant of the machine: R44 speaks of the states that have not halted; what the hidden state
holds in the fail-stop is left open (60_exceptions.md R225). -/
abbrev Inv (s : State) : Prop := s.halt = true ∨ LiveInv s

/-- Two states that differ at most in what no host register exposes: `Km`, `Kr`, `FR`, `KS`, `CB`, `PB`
and the write-only `KEY` (10_state.md R20). -/
def SameVisible (s t : State) : Prop :=
  s.sched.kv = t.sched.kv ∧ s.cfb.pos = t.cfb.pos ∧ s.cfb.pfx = t.cfb.pfx ∧
    s.cfb.cfba = t.cfb.cfba ∧ s.cfb.qcdone = t.cfb.qcdone ∧ s.cfb.qcfail = t.cfb.qcfail ∧
    s.din = t.din ∧ s.dout = t.dout ∧ s.err = t.err ∧ s.halt = t.halt

/-- `s` once the host has written a chunk to `DIN`, zero after its bytes (30_encoding.md R107). -/
def stageChunk (s : State) (c : List Byte) : State := { s with din := bytesPair (padBlock c) }

/-- Feeding a stream: each chunk staged and decrypted by a CFBDEC of its length, the bytes read from
`DOUT` concatenated (30_encoding.md R108). -/
def feed : State → List (List Byte) → Option (State × List Byte)
  | s, [] => some (s, [])
  | s, c :: cs =>
    match exec (.cfbdec c.length) (stageChunk s c) with
    | .next s' =>
      match feed s' cs with
      | some (t, ps) => some (t, (pairBytes s'.dout).toList.take c.length ++ ps)
      | none => none
    | .fault _ => none
    | .refused _ => none

/-- Exclusive-or of bytes with a keystream block, as far as the bytes reach. -/
def xorStream (bs : List Byte) (ks : Block) : List Byte := List.zipWith (· ^^^ ·) bs ks.toList

/-- The producer's data blocks: `Cd_k = m_k ^ E(FRd_k)`, `FRd_(k+1) = Cd_k`, the last block possibly
shorter (95_test_vectors.md section 3); `fuel` bounds their number. -/
def produceData (k : KeySchedule) : Nat → Block → List Byte → List Byte
  | 0, _, _ => []
  | _ + 1, _, [] => []
  | fuel + 1, fr, b :: bs =>
    let c := xorStream ((b :: bs).take 8) (encrypt k fr)
    c ++ produceData k fuel (padBlock c) ((b :: bs).drop 8)

/-- The producer's ciphertext of a random block `r`, its two repeated bytes and a message `m`
(95_test_vectors.md section 3): test scaffolding, no part of the core. -/
def produce (k : KeySchedule) (iv r : Block) (m : List Byte) : List Byte :=
  let c1 := xorStream r.toList (encrypt k iv)
  let c2 := xorStream [r[6], r[7]] (encrypt k (padBlock c1))
  c1 ++ c2 ++ produceData k m.length (padBlock ((c1 ++ c2).drop 2)) m

end Sys2Proof.Machine
end

