-- ==== Sys2Proof/WellFormed.lean ====
section
/-! DEFINITION. Which commands a command word can carry (30_encoding.md R101), and which `LEN` values
an operation allows (R102, R105 step 2). -/

namespace Sys2Proof

/-- `LEN` fits its eight bits, 0..255 (R101): the command has a word. -/
def Instr.wellFormed (i : Instr) : Bool := decide (i.len < 256)

/-- `LEN` is a value the operation allows (R102): 16 for SETKEY, 1 to 8 for CFBDEC, 0 for every
other. A well-formed command with another `LEN` still executes: it fails with a code (R104 (c)). -/
def Instr.lenAllowed : Instr → Bool
  | .nop l => l == 0
  | .setkey l => l == 16
  | .encblk l => l == 0
  | .decblk l => l == 0
  | .cfbinit l => l == 0
  | .cfbdec l => decide (1 ≤ l ∧ l ≤ 8)
  | .cfbend l => l == 0
  | .wipe l => l == 0

end Sys2Proof
end

