-- ==== Sys2Proof/Certificates/Slice0/Obligations.lean ====
section
/-! DEFINITION. The statements for the provers, each from a rule of the spec. "Derived" in a docstring
says that the spec itself marks the rule as derived or as general knowledge, or that a clause is the
model's own and which log entry says so. -/

open Sys2Proof Sys2Proof.Machine

/-! ### Encoding -/

/-- The canonical command words of 30_encoding.md R103, and two illegal words of R104. -/
def Obligations.CanonicalWordsDecode : Prop :=
  decode 0x00000000 = .ok (.nop 0) ∧ decode 0x00001001 = .ok (.setkey 16) ∧
  decode 0x00000002 = .ok (.encblk 0) ∧ decode 0x00000003 = .ok (.decblk 0) ∧
  decode 0x00000004 = .ok (.cfbinit 0) ∧ decode 0x00000105 = .ok (.cfbdec 1) ∧
  decode 0x00000805 = .ok (.cfbdec 8) ∧ decode 0x00000006 = .ok (.cfbend 0) ∧
  decode 0x00000007 = .ok (.wipe 0) ∧ decode 0x00000008 = .error .reservedOpcode ∧
  decode 0x80000001 = .error .reservedBits

/-- Every well-formed command, with every `LEN` its field admits, is read back from its word (R101). -/
def Obligations.DecodeAfterEncodeIsTheCommand : Prop :=
  ∀ i : Instr, i.wellFormed = true → decode (encode i) = .ok i

/-- Every word that decodes is the word of the command it decodes to, and that command is well formed
(R101): no bit of a command word is dropped. -/
def Obligations.EncodeAfterDecodeIsTheWord : Prop :=
  ∀ (w : Word) (i : Instr), decode w = .ok i → encode i = w ∧ i.wellFormed = true

/-- 30_encoding.md R103: a word is an operation exactly when `w & 0xFFFF00FF` is the operation's match
value; `LEN` is bits 15:8. -/
def Obligations.MaskAndMatchSelectTheOperation : Prop :=
  ∀ (w : Word) (len : Nat),
    (decode w = .ok (.nop len) ↔ w &&& 0xFFFF00FF = 0x00000000 ∧ len = w.toNat / 256 % 256) ∧
    (decode w = .ok (.setkey len) ↔ w &&& 0xFFFF00FF = 0x00000001 ∧ len = w.toNat / 256 % 256) ∧
    (decode w = .ok (.encblk len) ↔ w &&& 0xFFFF00FF = 0x00000002 ∧ len = w.toNat / 256 % 256) ∧
    (decode w = .ok (.decblk len) ↔ w &&& 0xFFFF00FF = 0x00000003 ∧ len = w.toNat / 256 % 256) ∧
    (decode w = .ok (.cfbinit len) ↔ w &&& 0xFFFF00FF = 0x00000004 ∧ len = w.toNat / 256 % 256) ∧
    (decode w = .ok (.cfbdec len) ↔ w &&& 0xFFFF00FF = 0x00000005 ∧ len = w.toNat / 256 % 256) ∧
    (decode w = .ok (.cfbend len) ↔ w &&& 0xFFFF00FF = 0x00000006 ∧ len = w.toNat / 256 % 256) ∧
    (decode w = .ok (.wipe len) ↔ w &&& 0xFFFF00FF = 0x00000007 ∧ len = w.toNat / 256 % 256)

/-- 30_encoding.md R104: (a) and (b), a CMD write of a word with `RSV != 0` or `OP > 0x07` fails with
`E_BADCMD` and changes nothing else; (c), a legal operation with a `LEN` it does not allow fails with
`E_KEYLEN`, `E_ZEROLEN` or `E_BADLEN` (and zeroes `KEY` if it is SETKEY, R218). -/
def Obligations.IllegalWordsFailAndChangeNothingElse : Prop :=
  ∀ (s : State) (w : Word), s.halt = false →
    (w.extractLsb' 16 16 ≠ 0 ∨ 7 < (w.extractLsb' 0 8).toNat →
      accept (cmdInput w) s = .next { s with err := 0xFFFFFFFF }) ∧
    (∀ i, decode w = .ok i → i.lenAllowed = false →
      ∃ code ∈ ([0xFFFFFFFE, 0xFFFFFFFD, 0xFFFFFFFC] : List Word), ∃ key,
        accept (cmdInput w) s = .next { s with err := code, key := key } ∧
          key = (match i with
            | .setkey _ => Vector.replicate 4 0
            | .nop _ | .encblk _ | .decblk _ | .cfbinit _ | .cfbdec _ | .cfbend _ | .wipe _ => s.key))

/-! ### Steps and registers -/

/-- A step runs the decoded command: when the next input is a CMD write of a word that decodes to `i`,
the step is `exec i` once the input is taken. The list of inputs is the model's own (log entry 1). -/
def Obligations.StepRunsTheDecodedCommand : Prop :=
  ∀ (s : State) (w : Word) (i : Instr) (rest : List Input),
    s.inputs = cmdInput w :: rest → decode w = .ok i → step s = exec i { s with inputs := rest }

/-- A step answers the next input of the list, and with none pending the core waits (60_exceptions.md
R218). That the inputs stand in a list, and that a waiting core is a step to the same state, are the
model's choices (log entries 1 and 2). -/
def Obligations.StepTakesTheNextInput : Prop :=
  ∀ s : State, (s.inputs = [] → step s = .next s) ∧
    ∀ (i : Input) (rest : List Input), s.inputs = i :: rest →
      step s = accept i { s with inputs := rest }

/-- 20_memory.md R64: an access that is no aligned 32-bit access at 0x00..0x3C is refused, never treated
as a no-op; every other is answered. -/
def Obligations.UndefinedAccessesAreRefused : Prop :=
  ∀ (s : State) (width : Width) (off : Nat) (v : Word),
    (width ≠ .word ∨ off % 4 ≠ 0 ∨ 0x40 ≤ off →
      (∃ r, accept (.read width off) s = .refused r) ∧
      (∃ r, accept (.write width off v) s = .refused r)) ∧
    (width = .word → off % 4 = 0 → off < 0x40 →
      (∃ t, accept (.read width off) s = .next t) ∧
      (∃ t, accept (.write width off v) s = .next t))

/-- 20_memory.md R65, 43_control_ops.md R202: every aligned read in 0x00..0x3C, in the fail-stop too,
delivers `regRead` and changes nothing in the core; and what `regRead` is outside the fail-stop. (What it
is in the fail-stop is in HaltIsAFailStop.) That the word goes into the list `returned` is the model's
choice (log entry 3). -/
def Obligations.ReadsReturnTheirRegister : Prop :=
  ∀ s : State,
    (∀ off, off % 4 = 0 → off < 0x40 →
      accept (.read .word off) s = .next { s with returned := regRead s off :: s.returned }) ∧
    (s.halt = false →
      regRead s 0x04 = statusWord s ∧ regRead s 0x08 = s.err ∧
      regRead s 0x20 = s.din[0] ∧ regRead s 0x24 = s.din[1] ∧
      regRead s 0x28 = s.dout[0] ∧ regRead s 0x2C = s.dout[1] ∧
      ∀ off ∈ [0x00, 0x0C, 0x10, 0x14, 0x18, 0x1C, 0x30, 0x34, 0x38, 0x3C], regRead s off = 0)

/-- 20_memory.md R65 (the spec derives it) outside the fail-stop: `KEY` and `DIN` store what is written,
every read-only or reserved offset ignores it, and nothing else changes. -/
def Obligations.WritesStoreOrAreIgnored : Prop :=
  ∀ (s : State) (v : Word), s.halt = false →
    (∀ j : Fin 4, accept (.write .word (0x10 + 4 * j.val) v) s = .next { s with key := s.key.set j v }) ∧
    (∀ j : Fin 2, accept (.write .word (0x20 + 4 * j.val) v) s = .next { s with din := s.din.set j v }) ∧
    (∀ off ∈ [0x04, 0x08, 0x0C, 0x28, 0x2C, 0x30, 0x34, 0x38, 0x3C],
      accept (.write .word off v) s = .next s)

/-- 10_state.md R37: the fields of STATUS, the fixed word of the fail-stop, a read that changes no
element of the core, an ignored write. -/
def Obligations.StatusShowsItsFields : Prop :=
  ∀ s : State,
    regRead s 0x04 = statusWord s ∧
    (s.halt = true → statusWord s = 0x00000020) ∧
    (s.halt = false →
      (statusWord s).getLsbD 0 = s.sched.kv ∧ (statusWord s).getLsbD 1 = s.cfb.cfba ∧
      (statusWord s).getLsbD 2 = s.cfb.qcdone ∧ (statusWord s).getLsbD 3 = s.cfb.qcfail ∧
      ((statusWord s).getLsbD 4 = true ↔ s.err ≠ 0) ∧ (statusWord s).getLsbD 5 = false ∧
      (statusWord s).extractLsb' 6 2 = 0 ∧ ((statusWord s).extractLsb' 8 3).toNat = s.cfb.pos.val ∧
      (statusWord s).extractLsb' 11 1 = 0 ∧ ((statusWord s).extractLsb' 12 4).toNat = s.cfb.pfx.val ∧
      (statusWord s).extractLsb' 16 16 = 0) ∧
    (∀ v, accept (.write .word 0x04 v) s = .next s) ∧
    ∃ t, accept (.read .word 0x04) s = .next t ∧ t.sched = s.sched ∧ t.cfb = s.cfb ∧ t.key = s.key ∧
      t.din = s.din ∧ t.dout = s.dout ∧ t.err = s.err ∧ t.halt = s.halt

/-- 10_state.md R45: after reset every element is zero, and STATUS reads zero. -/
def Obligations.ResetStateIsZero : Prop :=
  (∀ i : Fin 16, State.reset.sched.km[i] = 0 ∧ State.reset.sched.kr[i] = 0) ∧
  State.reset.sched.kv = false ∧
  (∀ j : Fin 8, State.reset.cfb.fr[j] = 0 ∧ State.reset.cfb.ks[j] = 0 ∧ State.reset.cfb.cb[j] = 0) ∧
  State.reset.cfb.pos = 0 ∧ State.reset.cfb.pfx = 0 ∧ (∀ j : Fin 4, State.reset.cfb.pb[j] = 0) ∧
  State.reset.cfb.cfba = false ∧ State.reset.cfb.qcdone = false ∧ State.reset.cfb.qcfail = false ∧
  (∀ j : Fin 4, State.reset.key[j] = 0) ∧
  (∀ j : Fin 2, State.reset.din[j] = 0 ∧ State.reset.dout[j] = 0) ∧
  State.reset.err = 0 ∧ State.reset.halt = false ∧ statusWord State.reset = 0x00000000

/-- 70_reset_and_hazards.md R250: a reset puts every element at its reset value, from every state, the
fail-stop among them. That the model's own fields stay is the model's choice (log entry 8). -/
def Obligations.ResetInputZeroesEveryElement : Prop :=
  ∀ s : State, accept .reset s = .next
    { State.reset with inputs := s.inputs, returned := s.returned, wipes := s.wipes }

/-- What no host register exposes has no influence on any read (10_state.md R20, R21, R33;
60_exceptions.md R242). -/
def Obligations.HiddenStateIsUnreadable : Prop :=
  ∀ (s t : State) (off : Nat), SameVisible s t → regRead s off = regRead t off

/-! ### The commands -/

/-- 43_control_ops.md R200. -/
def Obligations.NopClearsOnlyErr : Prop :=
  decode 0x00000000 = .ok (.nop 0) ∧
  ∀ s : State, s.halt = false →
    exec (.nop 0) s = .next { s with err := 0 } ∧
    ∀ len, len ≠ 0 → exec (.nop len) s = .next { s with err := 0xFFFFFFFC }

/-- 40_key_schedule.md R130: the success, `E_KEYLEN` before `E_KEYBUSY`, and `KEY` zeroed on every exit.
`scheduleOf` is `Expand` with the subkey extraction (R131, R132). -/
def Obligations.SetkeyInstallsTheExpandedKey : Prop :=
  decode 0x00001001 = .ok (.setkey 16) ∧
  ∀ s : State, s.halt = false →
    (s.cfb.cfba = false → exec (.setkey 16) s = .next
      { s with sched := scheduleOf (keyOperand s), key := Vector.replicate 4 0, err := 0 }) ∧
    (s.cfb.cfba = true → exec (.setkey 16) s = .next
      { s with key := Vector.replicate 4 0, err := 0xFFFFFFF9 }) ∧
    ∀ len, len ≠ 16 → exec (.setkey len) s = .next
      { s with key := Vector.replicate 4 0, err := 0xFFFFFFFE }

/-- 41_block_cipher.md R156. -/
def Obligations.EncblkWritesTheEncryptedBlock : Prop :=
  decode 0x00000002 = .ok (.encblk 0) ∧
  ∀ s : State, s.halt = false →
    (s.sched.kv = true → exec (.encblk 0) s = .next
      { s with dout := bytesPair (encrypt s.sched (pairBytes s.din)), err := 0 }) ∧
    (s.sched.kv = false → exec (.encblk 0) s = .next { s with err := 0xFFFFFFFB }) ∧
    ∀ len, len ≠ 0 → exec (.encblk len) s = .next { s with err := 0xFFFFFFFC }

/-- 41_block_cipher.md R157. -/
def Obligations.DecblkWritesTheDecryptedBlock : Prop :=
  decode 0x00000003 = .ok (.decblk 0) ∧
  ∀ s : State, s.halt = false →
    (s.sched.kv = true → exec (.decblk 0) s = .next
      { s with dout := bytesPair (decrypt s.sched (pairBytes s.din)), err := 0 }) ∧
    (s.sched.kv = false → exec (.decblk 0) s = .next { s with err := 0xFFFFFFFB }) ∧
    ∀ len, len ≠ 0 → exec (.decblk len) s = .next { s with err := 0xFFFFFFFC }

/-- 42_cfb_engine.md R170. -/
def Obligations.CfbinitStartsAStream : Prop :=
  decode 0x00000004 = .ok (.cfbinit 0) ∧
  ∀ s : State, s.halt = false →
    (s.sched.kv = true → exec (.cfbinit 0) s = .next
      { s with
        cfb := { fr := pairBytes s.din, ks := zeroBlock, cb := zeroBlock, pos := 0, pfx := 0,
                 pb := Vector.replicate 4 0, cfba := true, qcdone := false, qcfail := false },
        err := 0 }) ∧
    (s.sched.kv = false → exec (.cfbinit 0) s = .next { s with err := 0xFFFFFFFB }) ∧
    ∀ len, len ≠ 0 → exec (.cfbinit len) s = .next { s with err := 0xFFFFFFFC }

/-- 42_cfb_engine.md R174: the chunk is the first `n` bytes of `DIN`; `CfbByte` runs over it in ascending
order; the plaintext goes to the same positions of `DOUT`, zero after it; and the three failures. -/
def Obligations.CfbdecDecryptsTheChunk : Prop :=
  (∀ n, 1 ≤ n → n ≤ 8 → decode (BitVec.ofNat 32 (5 + 256 * n)) = .ok (.cfbdec n)) ∧
  ∀ s : State, s.halt = false →
    (∀ n, 1 ≤ n → n ≤ 8 → s.cfb.cfba = true →
      ∃ t ps, cfbBytes s.sched ((pairBytes s.din).toList.take n) s.cfb = (t, ps) ∧ ps.length = n ∧
        exec (.cfbdec n) s = .next { s with cfb := t, dout := bytesPair (padBlock ps), err := 0 }) ∧
    (∀ n, 1 ≤ n → n ≤ 8 → s.cfb.cfba = false →
      exec (.cfbdec n) s = .next { s with err := 0xFFFFFFFA }) ∧
    exec (.cfbdec 0) s = .next { s with err := 0xFFFFFFFD } ∧
    ∀ n, 8 < n → exec (.cfbdec n) s = .next { s with err := 0xFFFFFFFC }

/-- 42_cfb_engine.md R175. -/
def Obligations.CfbendEndsTheStream : Prop :=
  decode 0x00000006 = .ok (.cfbend 0) ∧
  ∀ s : State, s.halt = false →
    (s.cfb.cfba = true → exec (.cfbend 0) s = .next
      { s with
        cfb := { fr := zeroBlock, ks := zeroBlock, cb := zeroBlock, pos := 0, pfx := 0,
                 pb := Vector.replicate 4 0, cfba := false,
                 qcdone := s.cfb.qcdone, qcfail := s.cfb.qcfail },
        err := 0 }) ∧
    (s.cfb.cfba = false → exec (.cfbend 0) s = .next { s with err := 0xFFFFFFFA }) ∧
    ∀ len, len ≠ 0 → exec (.cfbend len) s = .next { s with err := 0xFFFFFFFC }

/-- 43_control_ops.md R201, for both outcomes of the zero-verification: success leaves the reset state;
failure sets `HALT`, does not update `ERR`, and says nothing of what was to be zeroed (U5). The count
of draws is the model's own (log entry 4). -/
def Obligations.WipeZeroesEverythingOrHalts : Prop :=
  decode 0x00000007 = .ok (.wipe 0) ∧
  ∀ s : State, s.halt = false →
    (∃ t, exec (.wipe 0) s = .next t ∧
      if Config.zeroizeOk s.wipes then
        t = { State.reset with inputs := s.inputs, returned := s.returned, wipes := s.wipes + 1 }
      else
        t.halt = true ∧ t.err = s.err ∧ t.inputs = s.inputs ∧ t.returned = s.returned ∧
          t.wipes = s.wipes + 1) ∧
    ∀ len, len ≠ 0 → exec (.wipe len) s = .next { s with err := 0xFFFFFFFC }

/-! ### The cipher -/

/-- 41_block_cipher.md R150 to R153 (general knowledge, log entry 9): the three round functions, written
with the library's rotation and bit slices. -/
def Obligations.RoundFunctionsCombineFourLookups : Prop :=
  ∀ (k : KeySchedule) (i : Fin 16) (d : Word),
    let a := (k.km[i] + d).rotateLeft k.kr[i].toNat
    let x := (k.km[i] ^^^ d).rotateLeft k.kr[i].toNat
    let b := (k.km[i] - d).rotateLeft k.kr[i].toNat
    (i.val % 3 = 0 → roundF k i d =
      ((S1 (a.extractLsb 31 24) ^^^ S2 (a.extractLsb 23 16)) - S3 (a.extractLsb 15 8))
        + S4 (a.extractLsb 7 0)) ∧
    (i.val % 3 = 1 → roundF k i d =
      ((S1 (x.extractLsb 31 24) - S2 (x.extractLsb 23 16)) + S3 (x.extractLsb 15 8))
        ^^^ S4 (x.extractLsb 7 0)) ∧
    (i.val % 3 = 2 → roundF k i d =
      ((S1 (b.extractLsb 31 24) + S2 (b.extractLsb 23 16)) ^^^ S3 (b.extractLsb 15 8))
        - S4 (b.extractLsb 7 0))

/-- 41_block_cipher.md R154 (general knowledge, log entry 9): ENCBLK runs sixteen Feistel rounds from
`(DIN[0], DIN[1])` and writes the halves exchanged. -/
def Obligations.EncblkRunsSixteenRounds : Prop :=
  ∀ s : State, s.halt = false → s.sched.kv = true →
    ∃ l r : Nat → Word, l 0 = s.din[0] ∧ r 0 = s.din[1] ∧
      (∀ i : Fin 16, l (i.val + 1) = r i.val ∧
        r (i.val + 1) = l i.val ^^^ roundF s.sched i (r i.val)) ∧
      exec (.encblk 0) s = .next { s with dout := #v[r 16, l 16], err := 0 }

/-- 41_block_cipher.md R155 (general knowledge, log entry 9): DECBLK runs the same rounds from round 15
down to round 0. -/
def Obligations.DecblkRunsTheRoundsInReverse : Prop :=
  ∀ s : State, s.halt = false → s.sched.kv = true →
    ∃ l r : Nat → Word, l 0 = s.din[0] ∧ r 0 = s.din[1] ∧
      (∀ i : Fin 16, l (i.val + 1) = r i.val ∧
        r (i.val + 1) = l i.val ^^^ roundF s.sched (15 - i) (r i.val)) ∧
      exec (.decblk 0) s = .next { s with dout := #v[r 16, l 16], err := 0 }

/-- 41_block_cipher.md R159 (the spec derives it): under every schedule DECBLK of ENCBLK's result gives
the block back, and ENCBLK of DECBLK's result too. -/
def Obligations.EncblkAndDecblkAreInverse : Prop :=
  ∀ s : State, s.halt = false → s.sched.kv = true →
    (∃ t u, exec (.encblk 0) s = .next t ∧ exec (.decblk 0) { t with din := t.dout } = .next u ∧
      u.dout = s.din) ∧
    (∃ t u, exec (.decblk 0) s = .next t ∧ exec (.encblk 0) { t with din := t.dout } = .next u ∧
      u.dout = s.din)

/-- The four lines of 40_key_schedule.md R131 that compute `z` from `x`, as equations of the arrays. -/
def Sys2Proof.Machine.ZLines (x z : Scratch) : Prop :=
  wordAt z 0x0 = wordAt x 0x0 ^^^ S5 x[0xD] ^^^ S6 x[0xF] ^^^ S7 x[0xC] ^^^ S8 x[0xE] ^^^ S7 x[0x8] ∧
  wordAt z 0x4 = wordAt x 0x8 ^^^ S5 z[0x0] ^^^ S6 z[0x2] ^^^ S7 z[0x1] ^^^ S8 z[0x3] ^^^ S8 x[0xA] ∧
  wordAt z 0x8 = wordAt x 0xC ^^^ S5 z[0x7] ^^^ S6 z[0x6] ^^^ S7 z[0x5] ^^^ S8 z[0x4] ^^^ S5 x[0x9] ∧
  wordAt z 0xC = wordAt x 0x4 ^^^ S5 z[0xA] ^^^ S6 z[0x9] ^^^ S7 z[0xB] ^^^ S8 z[0x8] ^^^ S6 x[0xB]

/-- The four lines of 40_key_schedule.md R131 that compute `x` from `z`, as equations of the arrays. -/
def Sys2Proof.Machine.XLines (z x : Scratch) : Prop :=
  wordAt x 0x0 = wordAt z 0x8 ^^^ S5 z[0x5] ^^^ S6 z[0x7] ^^^ S7 z[0x4] ^^^ S8 z[0x6] ^^^ S7 z[0x0] ∧
  wordAt x 0x4 = wordAt z 0x0 ^^^ S5 x[0x0] ^^^ S6 x[0x2] ^^^ S7 x[0x1] ^^^ S8 x[0x3] ^^^ S8 z[0x2] ∧
  wordAt x 0x8 = wordAt z 0x4 ^^^ S5 x[0x7] ^^^ S6 x[0x6] ^^^ S7 x[0x5] ^^^ S8 x[0x4] ^^^ S5 z[0x1] ∧
  wordAt x 0xC = wordAt z 0xC ^^^ S5 x[0xA] ^^^ S6 x[0x9] ^^^ S7 x[0xB] ^^^ S8 x[0x8] ^^^ S6 z[0x3]

/-- The sixteen `K` lines of one pass of 40_key_schedule.md R131, as equations: `w j` is `K[j + 1]` in the
first pass and `K[j + 17]` in the second. The arrays are those the four groups of block lines leave. -/
def Sys2Proof.Machine.KLines (z1 x1 z2 x2 : Scratch) (w : Fin 16 → Word) : Prop :=
  w 0 = S5 z1[0x8] ^^^ S6 z1[0x9] ^^^ S7 z1[0x7] ^^^ S8 z1[0x6] ^^^ S5 z1[0x2] ∧
  w 1 = S5 z1[0xA] ^^^ S6 z1[0xB] ^^^ S7 z1[0x5] ^^^ S8 z1[0x4] ^^^ S6 z1[0x6] ∧
  w 2 = S5 z1[0xC] ^^^ S6 z1[0xD] ^^^ S7 z1[0x3] ^^^ S8 z1[0x2] ^^^ S7 z1[0x9] ∧
  w 3 = S5 z1[0xE] ^^^ S6 z1[0xF] ^^^ S7 z1[0x1] ^^^ S8 z1[0x0] ^^^ S8 z1[0xC] ∧
  w 4 = S5 x1[0x3] ^^^ S6 x1[0x2] ^^^ S7 x1[0xC] ^^^ S8 x1[0xD] ^^^ S5 x1[0x8] ∧
  w 5 = S5 x1[0x1] ^^^ S6 x1[0x0] ^^^ S7 x1[0xE] ^^^ S8 x1[0xF] ^^^ S6 x1[0xD] ∧
  w 6 = S5 x1[0x7] ^^^ S6 x1[0x6] ^^^ S7 x1[0x8] ^^^ S8 x1[0x9] ^^^ S7 x1[0x3] ∧
  w 7 = S5 x1[0x5] ^^^ S6 x1[0x4] ^^^ S7 x1[0xA] ^^^ S8 x1[0xB] ^^^ S8 x1[0x7] ∧
  w 8 = S5 z2[0x3] ^^^ S6 z2[0x2] ^^^ S7 z2[0xC] ^^^ S8 z2[0xD] ^^^ S5 z2[0x9] ∧
  w 9 = S5 z2[0x1] ^^^ S6 z2[0x0] ^^^ S7 z2[0xE] ^^^ S8 z2[0xF] ^^^ S6 z2[0xC] ∧
  w 10 = S5 z2[0x7] ^^^ S6 z2[0x6] ^^^ S7 z2[0x8] ^^^ S8 z2[0x9] ^^^ S7 z2[0x2] ∧
  w 11 = S5 z2[0x5] ^^^ S6 z2[0x4] ^^^ S7 z2[0xA] ^^^ S8 z2[0xB] ^^^ S8 z2[0x6] ∧
  w 12 = S5 x2[0x8] ^^^ S6 x2[0x9] ^^^ S7 x2[0x7] ^^^ S8 x2[0x6] ^^^ S5 x2[0x3] ∧
  w 13 = S5 x2[0xA] ^^^ S6 x2[0xB] ^^^ S7 x2[0x5] ^^^ S8 x2[0x4] ^^^ S6 x2[0x7] ∧
  w 14 = S5 x2[0xC] ^^^ S6 x2[0xD] ^^^ S7 x2[0x3] ^^^ S8 x2[0x2] ^^^ S7 x2[0x8] ∧
  w 15 = S5 x2[0xE] ^^^ S6 x2[0xF] ^^^ S7 x2[0x1] ^^^ S8 x2[0x0] ^^^ S8 x2[0xD]

/-- The 32 lines of one pass of 40_key_schedule.md R131, from `x`: the block lines and the `K` lines. -/
def Sys2Proof.Machine.PassLines (x z1 x1 z2 x2 : Scratch) (w : Fin 16 → Word) : Prop :=
  ZLines x z1 ∧ XLines z1 x1 ∧ ZLines x1 z2 ∧ XLines z2 x2 ∧ KLines z1 x1 z2 x2 w

/-- 40_key_schedule.md R131 (general knowledge, log entry 9): the words and the scratch arrays of both
passes satisfy the 64 lines; the second pass goes on with the `x` of the first. -/
def Obligations.ExpandFollowsTheRecurrence : Prop :=
  ∀ k : Vector Byte 16, ∃ z1 x1 z2 x2 z3 x3 z4 x4 : Scratch,
    PassLines k z1 x1 z2 x2 (fun j => (expand k)[j.val]) ∧
    PassLines x2 z3 x3 z4 x4 (fun j => (expand k)[j.val + 16])

/-- 40_key_schedule.md R132 (general knowledge, log entry 9): SETKEY takes the masking subkeys from
`K[1..16]` whole and the rotation subkeys from the low five bits of `K[17..32]`. -/
def Obligations.SetkeyExtractsTheSubkeys : Prop :=
  ∀ s : State, s.halt = false → s.cfb.cfba = false →
    ∃ t, exec (.setkey 16) s = .next t ∧ t.sched.kv = true ∧
      ∀ i : Fin 16, t.sched.km[i] = (expand (keyOperand s))[i.val] ∧
        t.sched.kr[i].toNat = ((expand (keyOperand s))[i.val + 16]).toNat % 32

/-! ### The CFB engine -/

/-- 42_cfb_engine.md R171 to R174 (the spec derives R171): the byte of stream index 9 makes the quick check on the
four kept plaintext bytes and resynchronises the feedback register to `C[2..9]`. -/
def Obligations.TenthByteChecksAndResynchronises : Prop :=
  ∀ s : State, s.halt = false → s.cfb.cfba = true → s.cfb.pfx = 9 → s.cfb.pos = 1 →
    let c := byteOf s.din[0] 0
    let p := c ^^^ s.cfb.ks[1]
    exec (.cfbdec 1) s = .next
      { s with
        cfb := { fr := #v[s.cfb.fr[2], s.cfb.fr[3], s.cfb.fr[4], s.cfb.fr[5], s.cfb.fr[6], s.cfb.fr[7],
                          s.cfb.cb[0], c],
                 ks := zeroBlock, cb := zeroBlock, pos := 0, pfx := 10,
                 pb := #v[s.cfb.pb[0], s.cfb.pb[1], s.cfb.pb[2], p], cfba := true, qcdone := true,
                 qcfail := decide (s.cfb.pb[0] ≠ s.cfb.pb[2] ∨ s.cfb.pb[1] ≠ p) },
        dout := #v[be32 p 0 0 0, 0], err := 0 }

/-- 42_cfb_engine.md R171 for a prefix byte before the tenth (the spec derives R171): a new block's
keystream is `Encrypt(FR)`, the eighth byte of a block makes it the feedback register, and the
plaintext bytes of index 6 to 8 are kept. -/
def Obligations.PrefixBytesAreDecryptedAndKept : Prop :=
  ∀ s : State, s.halt = false → s.cfb.cfba = true → s.cfb.pfx.val < 9 →
    let c := byteOf s.din[0] 0
    let ks := if s.cfb.pos = 0 then encrypt s.sched s.cfb.fr else s.cfb.ks
    let p := c ^^^ ks[s.cfb.pos]
    ∃ t, exec (.cfbdec 1) s = .next { s with cfb := t, dout := #v[be32 p 0 0 0, 0], err := 0 } ∧
      t.pfx.val = s.cfb.pfx.val + 1 ∧ t.cfba = true ∧ t.qcdone = s.cfb.qcdone ∧
      t.qcfail = s.cfb.qcfail ∧
      (∀ j : Fin 4, t.pb[j] = if s.cfb.pfx.val = 6 + j.val then p else s.cfb.pb[j]) ∧
      (s.cfb.pos.val < 7 → t.pos.val = s.cfb.pos.val + 1 ∧ t.fr = s.cfb.fr ∧ t.ks = ks ∧
        t.cb = s.cfb.cb.set s.cfb.pos c) ∧
      (s.cfb.pos.val = 7 → t.pos = 0 ∧ t.fr = s.cfb.cb.set 7 c ∧ t.ks = zeroBlock ∧
        t.cb = zeroBlock)

/-- 42_cfb_engine.md R171 for a byte of message data (the spec derives R171). -/
def Obligations.DataBytesAreDecrypted : Prop :=
  ∀ s : State, s.halt = false → s.cfb.cfba = true → s.cfb.pfx = 10 →
    let c := byteOf s.din[0] 0
    let ks := if s.cfb.pos = 0 then encrypt s.sched s.cfb.fr else s.cfb.ks
    let p := c ^^^ ks[s.cfb.pos]
    ∃ t, exec (.cfbdec 1) s = .next { s with cfb := t, dout := #v[be32 p 0 0 0, 0], err := 0 } ∧
      t.pfx = 10 ∧ t.pb = s.cfb.pb ∧ t.cfba = true ∧ t.qcdone = s.cfb.qcdone ∧
      t.qcfail = s.cfb.qcfail ∧
      (s.cfb.pos.val < 7 → t.pos.val = s.cfb.pos.val + 1 ∧ t.fr = s.cfb.fr ∧ t.ks = ks ∧
        t.cb = s.cfb.cb.set s.cfb.pos c) ∧
      (s.cfb.pos.val = 7 → t.pos = 0 ∧ t.fr = s.cfb.cb.set 7 c ∧ t.ks = zeroBlock ∧
        t.cb = zeroBlock)

/-- 42_cfb_engine.md R177 (the spec derives it): a whole block of message data at a block boundary is
decrypted as the block-wise statement says, and becomes the feedback register. -/
def Obligations.DataBlocksFollowTheBlockwiseChain : Prop :=
  ∀ s : State, s.halt = false → s.cfb.cfba = true → s.cfb.pfx = 10 → s.cfb.pos = 0 →
    let b := pairBytes s.din
    ∃ t, exec (.cfbdec 8) s = .next t ∧
      (∀ j : Fin 8, (pairBytes t.dout)[j] = b[j] ^^^ (encrypt s.sched s.cfb.fr)[j]) ∧
      t.cfb.fr = b ∧ t.cfb.pos = 0 ∧ t.cfb.ks = zeroBlock ∧ t.cfb.cb = zeroBlock ∧
      t.cfb.pfx = 10 ∧ t.cfb.pb = s.cfb.pb ∧ t.cfb.cfba = true ∧
      t.cfb.qcdone = s.cfb.qcdone ∧ t.cfb.qcfail = s.cfb.qcfail ∧
      t.sched = s.sched ∧ t.key = s.key ∧ t.din = s.din ∧ t.err = 0 ∧ t.halt = false

/-- 10_state.md R28, 42_cfb_engine.md R178: a chunk advances the prefix count up to 10, where it stays,
and keeps the stream active. -/
def Obligations.CfbdecCountsThePrefix : Prop :=
  ∀ (s : State) (n : Nat), s.halt = false → s.cfb.cfba = true → 1 ≤ n → n ≤ 8 →
    ∃ t, exec (.cfbdec n) s = .next t ∧ t.cfb.pfx.val = min 10 (s.cfb.pfx.val + n) ∧
      t.cfb.cfba = true

/-- 60_exceptions.md R222: the quick check's result and its kept bytes stop and alter nothing. Two
streams in the data phase that differ in them give the same plaintext, code and other state. -/
def Obligations.QuickCheckResultAltersNoDecryption : Prop :=
  ∀ (s : State) (n : Nat) (flag : Bool) (kept : Vector Byte 4),
    s.halt = false → s.cfb.cfba = true → s.cfb.pfx = 10 → 1 ≤ n → n ≤ 8 →
    ∃ t, exec (.cfbdec n) s = .next t ∧ t.err = 0 ∧ t.cfb.qcfail = s.cfb.qcfail ∧
      exec (.cfbdec n) { s with cfb := { s.cfb with qcfail := flag, pb := kept } } =
        .next { t with cfb := { t.cfb with qcfail := flag, pb := kept } }

/-- 42_cfb_engine.md R176 (the spec derives it): however a ciphertext is cut into chunks of 1 to 8 bytes,
the plaintext and the final stream state, `QCDONE` and `QCFAIL` among it, are the same. -/
def Obligations.ChunkingDoesNotMatter : Prop :=
  ∀ (s : State) (xs ys : List (List Byte)), s.halt = false → s.cfb.cfba = true →
    (∀ c ∈ xs, 1 ≤ c.length ∧ c.length ≤ 8) → (∀ c ∈ ys, 1 ≤ c.length ∧ c.length ≤ 8) →
    xs.flatten = ys.flatten →
    ∃ t u out, feed s xs = some (t, out) ∧ feed s ys = some (u, out) ∧ t.cfb = u.cfb

/-- 95_test_vectors.md S3 with the producer of its section 3 (the spec derives it from R177): after a
CFBINIT with the IV, the producer's ciphertext of any random block and any message, cut in any way,
decrypts to the ten prefix bytes and the message, and the quick check passes. -/
def Obligations.StreamDecryptsTheProducersCiphertext : Prop :=
  ∀ (s : State) (r : Block) (m : List Byte) (xs : List (List Byte)),
    s.halt = false → s.sched.kv = true → (∀ c ∈ xs, 1 ≤ c.length ∧ c.length ≤ 8) →
    xs.flatten = produce s.sched (pairBytes s.din) r m →
    ∃ t u, exec (.cfbinit 0) s = .next t ∧ feed t xs = some (u, r.toList ++ [r[6], r[7]] ++ m) ∧
      u.cfb.qcdone = true ∧ u.cfb.qcfail = false

/-! ### The whole machine -/

/-- The reset state satisfies the invariants of 10_state.md R44. -/
def Obligations.InvariantHoldsAtReset : Prop := LiveInv State.reset

/-- 10_state.md R44 (the spec derives it): every step keeps the invariants, from every state that has
them. -/
def Obligations.EveryStepKeepsTheInvariant : Prop :=
  ∀ s t : State, Inv s → step s = .next t → Inv t

/-- 30_encoding.md R105: the outcome of every CMD write, by the fields of its word; the first failing
check decides, and with all passed the operation runs. -/
def Obligations.FirstFailingCheckDecides : Prop :=
  ∀ (s : State) (w : Word),
    let op := (w.extractLsb' 0 8).toNat
    let len := (w.extractLsb' 8 8).toNat
    let failed (code : Word) : Host.Outcome State Fault Refusal := .next { s with err := code }
    let failedKey (code : Word) : Host.Outcome State Fault Refusal :=
      .next { s with err := code, key := Vector.replicate 4 0 }
    accept (cmdInput w) s =
      if s.halt then .next s
      else if w.extractLsb' 16 16 ≠ 0 ∨ 7 < op then failed 0xFFFFFFFF
      else if op = 1 then
        if len ≠ 16 then failedKey 0xFFFFFFFE
        else if s.cfb.cfba then failedKey 0xFFFFFFF9
        else exec (.setkey 16) s
      else if op = 5 then
        if len = 0 then failed 0xFFFFFFFD
        else if 8 < len then failed 0xFFFFFFFC
        else if s.cfb.cfba = false then failed 0xFFFFFFFA
        else exec (.cfbdec len) s
      else if len ≠ 0 then failed 0xFFFFFFFC
      else if op = 0 then exec (.nop 0) s
      else if op = 2 then
        if s.sched.kv = false then failed 0xFFFFFFFB else exec (.encblk 0) s
      else if op = 3 then
        if s.sched.kv = false then failed 0xFFFFFFFB else exec (.decblk 0) s
      else if op = 4 then
        if s.sched.kv = false then failed 0xFFFFFFFB else exec (.cfbinit 0) s
      else if op = 6 then
        if s.cfb.cfba = false then failed 0xFFFFFFFA else exec (.cfbend 0) s
      else exec (.wipe 0) s

/-- 60_exceptions.md R218: a CMD write that leaves a code in `ERR` has changed `ERR`, and `KEY` if its
word decoded as SETKEY, and nothing else; `ERRF` reads 1. -/
def Obligations.FailuresChangeOnlyErrAndKey : Prop :=
  ∀ (s t : State) (w : Word), s.halt = false → accept (cmdInput w) s = .next t → t.halt = false →
    t.err ≠ 0 →
    t = { s with
          err := t.err,
          key := (match decode w with
            | .ok (.setkey _) => Vector.replicate 4 0
            | _ => s.key) } ∧
      (statusWord t).getLsbD 4 = true

/-- 60_exceptions.md R216: the codes each command can leave in `ERR`; only WIPE can halt. -/
def Obligations.CommandsRaiseOnlyTheirCodes : Prop :=
  ∀ (i : Instr) (s : State), s.halt = false → ∃ t, exec i s = .next t ∧
    match i with
    | .nop _ => t.halt = false ∧ t.err ∈ ([0, 0xFFFFFFFC] : List Word)
    | .setkey _ => t.halt = false ∧ t.err ∈ ([0, 0xFFFFFFFE, 0xFFFFFFF9] : List Word)
    | .encblk _ | .decblk _ | .cfbinit _ =>
      t.halt = false ∧ t.err ∈ ([0, 0xFFFFFFFC, 0xFFFFFFFB] : List Word)
    | .cfbdec _ => t.halt = false ∧ t.err ∈ ([0, 0xFFFFFFFD, 0xFFFFFFFC, 0xFFFFFFFA] : List Word)
    | .cfbend _ => t.halt = false ∧ t.err ∈ ([0, 0xFFFFFFFC, 0xFFFFFFFA] : List Word)
    | .wipe _ => t.halt = true ∨ t.err ∈ ([0, 0xFFFFFFFC] : List Word)

/-- 10_state.md R39, 43_control_ops.md R201, 60_exceptions.md R225: the fail-stop is entered by a WIPE
whose verification fails and by nothing else, with `ERR` not updated; while it lasts every command and
write is ignored, a read of STATUS delivers `0x00000020` and of every other register 0; and only a reset
leaves it. That the draw of the verification is numbered by `wipes`, and that a delivered word goes into
the list `returned`, are the model's choices (log entries 4 and 3). -/
def Obligations.HaltIsAFailStop : Prop :=
  (∀ (s t : State) (i : Input), s.halt = false → accept i s = .next t →
    (t.halt = true ↔ i = cmdInput 0x00000007 ∧ Config.zeroizeOk s.wipes = false) ∧
      (t.halt = false ∨ t.err = s.err)) ∧
  (∀ s : State, s.halt = true →
    (∀ i, exec i s = .next s) ∧
    (∀ off v, off % 4 = 0 → off < 0x40 → accept (.write .word off v) s = .next s) ∧
    (∀ off, regRead s off = if off = 0x04 then 0x00000020 else 0) ∧
    (∀ off, off % 4 = 0 → off < 0x40 → accept (.read .word off) s = .next
      { s with returned := (if off = 0x04 then 0x00000020 else 0) :: s.returned }) ∧
    (∀ i t, accept i s = .next t → (t.halt = false ↔ i = .reset)))

/-- 40_key_schedule.md R134: only SETKEY (outside a stream), WIPE and reset change the key schedule. Of a
WIPE that halts nothing is said (60_exceptions.md R225). -/
def Obligations.OnlySetkeyWipeResetChangeTheSchedule : Prop :=
  ∀ (s t : State) (i : Input), accept i s = .next t →
    t.sched = s.sched ∨
    (i = cmdInput 0x00001001 ∧ s.cfb.cfba = false ∧ t.sched = scheduleOf (keyOperand s)) ∨
    (i = cmdInput 0x00000007 ∧ (t.halt = true ∨ t.sched = KeySchedule.zero)) ∨
    (i = .reset ∧ t.sched = KeySchedule.zero)

/-- 10_state.md R35: `DOUT` is written by a successful ENCBLK, DECBLK or CFBDEC and zeroed by WIPE and
reset; everything else leaves it. -/
def Obligations.OnlyResultsWipeResetChangeDout : Prop :=
  ∀ (s t : State) (i : Input), accept i s = .next t →
    t.dout = s.dout ∨
    (∃ w c, i = cmdInput w ∧ decode w = .ok c ∧ t.err = 0 ∧
      (c = .encblk 0 ∨ c = .decblk 0 ∨ ∃ n, 1 ≤ n ∧ n ≤ 8 ∧ c = .cfbdec n)) ∨
    (i = cmdInput 0x00000007 ∧ (t.halt = true ∨ t.dout = Vector.replicate 2 0)) ∨
    (i = .reset ∧ t.dout = Vector.replicate 2 0)

/-- 10_state.md R33, R34: `KEY` and `DIN` change by the host's writes, WIPE and reset, and `KEY` by
SETKEY, which zeroes it; no other input changes either. -/
def Obligations.StagingRegistersChangeOnlyAsStated : Prop :=
  ∀ (s t : State) (i : Input), accept i s = .next t →
    (t.key = s.key ∧ t.din = s.din) ∨
    (∃ (j : Fin 4) (v : Word),
      i = .write .word (0x10 + 4 * j.val) v ∧ t.key = s.key.set j v ∧ t.din = s.din) ∨
    (∃ (j : Fin 2) (v : Word),
      i = .write .word (0x20 + 4 * j.val) v ∧ t.din = s.din.set j v ∧ t.key = s.key) ∨
    (∃ w n, i = cmdInput w ∧ decode w = .ok (.setkey n) ∧
      t.key = Vector.replicate 4 0 ∧ t.din = s.din) ∨
    ((i = cmdInput 0x00000007 ∨ i = .reset) ∧
      (t.halt = true ∨ (t.key = Vector.replicate 4 0 ∧ t.din = Vector.replicate 2 0)))

/-- 10_state.md R31, R32, R42: the quick-check flags are written by the CFBDEC that consumes stream byte
index 9 and cleared by CFBINIT, WIPE and reset; nothing else changes them. -/
def Obligations.QuickCheckFlagsChangeOnlyAsStated : Prop :=
  ∀ (s t : State) (i : Input), accept i s = .next t →
    (t.cfb.qcdone = s.cfb.qcdone ∧ t.cfb.qcfail = s.cfb.qcfail) ∨
    (∃ w n, i = cmdInput w ∧ decode w = .ok (.cfbdec n) ∧
      s.cfb.pfx.val ≤ 9 ∧ 10 ≤ s.cfb.pfx.val + n ∧ t.cfb.qcdone = true) ∨
    ((i = cmdInput 0x00000004 ∨ i = cmdInput 0x00000007 ∨ i = .reset) ∧
      (t.halt = true ∨ (t.cfb.qcdone = false ∧ t.cfb.qcfail = false)))

/-- 60_exceptions.md R230 (the spec derives it): the outcome and the next coarse state of every command
with a legal `LEN`, in every coarse state; the invariant rules out `KV = 0` with `CFBA = 1`. -/
def Obligations.CommandsMoveTheCoarseStateAsTabled : Prop :=
  ∀ (i : Instr) (s : State), Inv s → i.lenAllowed = true →
    ∃ t, exec i s = .next t ∧
      match coarse s, i with
      | .halted, _ => t = s
      | c, .nop _ => t.err = 0 ∧ coarse t = c
      | .stream, .setkey _ => t.err = 0xFFFFFFF9 ∧ coarse t = .stream
      | _, .setkey _ => t.err = 0 ∧ coarse t = .keyed
      | .idle, .encblk _ | .idle, .decblk _ | .idle, .cfbinit _ =>
        t.err = 0xFFFFFFFB ∧ coarse t = .idle
      | c, .encblk _ | c, .decblk _ => t.err = 0 ∧ coarse t = c
      | _, .cfbinit _ => t.err = 0 ∧ coarse t = .stream
      | .stream, .cfbdec _ => t.err = 0 ∧ coarse t = .stream
      | .stream, .cfbend _ => t.err = 0 ∧ coarse t = .keyed
      | c, .cfbdec _ | c, .cfbend _ => t.err = 0xFFFFFFFA ∧ coarse t = c
      | _, .wipe _ => (t.err = 0 ∧ coarse t = .idle) ∨ coarse t = .halted

/-- 70_reset_and_hazards.md R262, 43_control_ops.md R201: after a WIPE nothing depends on what the core
held before. Two cores whose WIPEs draw alike (log entry 4) answer every read alike from then on, and
unless they halt they agree on every element that held a secret. -/
def Obligations.WipeLeavesNoTraceOfTheSecrets : Prop :=
  ∀ s u : State, s.halt = false → u.halt = false → s.wipes = u.wipes →
    ∃ s' u', exec (.wipe 0) s = .next s' ∧ exec (.wipe 0) u = .next u' ∧ s'.halt = u'.halt ∧
      (∀ off, regRead s' off = regRead u' off) ∧
      (s'.halt = false → s'.sched = u'.sched ∧ s'.cfb = u'.cfb ∧ s'.key = u'.key ∧
        s'.din = u'.din ∧ s'.dout = u'.dout ∧ s'.err = u'.err)
end

