-- ==== Sys2Proof/Laws/Bytes.lean ====
section
/-! SUPPORT. Packing bytes into words and back (00_scope.md R9, R10; 20_memory.md R66, R68). -/

namespace Sys2Proof.Machine

theorem byteOf_be32 (a b c d : Byte) :
    byteOf (be32 a b c d) 0 = a ∧ byteOf (be32 a b c d) 1 = b ∧ byteOf (be32 a b c d) 2 = c ∧
      byteOf (be32 a b c d) 3 = d := by
  refine ⟨?_, ?_, ?_, ?_⟩ <;>
    (apply BitVec.eq_of_getLsbD_eq
     intro j hj
     simp only [byteOf, be32, BitVec.getLsbD_extractLsb', BitVec.getLsbD_append]
     grind)

@[simp] theorem byteOf_be32_zero (a b c d : Byte) : byteOf (be32 a b c d) 0 = a :=
  (byteOf_be32 a b c d).1
@[simp] theorem byteOf_be32_one (a b c d : Byte) : byteOf (be32 a b c d) 1 = b :=
  (byteOf_be32 a b c d).2.1
@[simp] theorem byteOf_be32_two (a b c d : Byte) : byteOf (be32 a b c d) 2 = c :=
  (byteOf_be32 a b c d).2.2.1
@[simp] theorem byteOf_be32_three (a b c d : Byte) : byteOf (be32 a b c d) 3 = d :=
  (byteOf_be32 a b c d).2.2.2

/-- A word is built from its bytes (R9). -/
@[simp] theorem be32_byteOf (w : Word) :
    be32 (byteOf w 0) (byteOf w 1) (byteOf w 2) (byteOf w 3) = w := by
  apply BitVec.eq_of_getLsbD_eq
  intro j hj
  simp only [byteOf, be32, BitVec.getLsbD_extractLsb', BitVec.getLsbD_append]
  grind

/-- The bytes of a register pair, written out (20_memory.md R66). -/
theorem pairBytes_eq (r : Vector Word 2) :
    pairBytes r = #v[byteOf r[0] 0, byteOf r[0] 1, byteOf r[0] 2, byteOf r[0] 3,
      byteOf r[1] 0, byteOf r[1] 1, byteOf r[1] 2, byteOf r[1] 3] := by
  apply Vector.ext
  intro i hi
  interval_cases i <;> simp [pairBytes]

/-- A block survives the register pair. -/
@[simp] theorem pairBytes_bytesPair (b : Block) : pairBytes (bytesPair b) = b := by
  apply Vector.ext
  intro i hi
  rw [pairBytes_eq]
  interval_cases i <;> simp [bytesPair]

/-- A register pair is the carrier of its bytes. -/
@[simp] theorem bytesPair_pairBytes (r : Vector Word 2) : bytesPair (pairBytes r) = r := by
  apply Vector.ext
  intro i hi
  rw [pairBytes_eq]
  interval_cases i <;> simp [bytesPair]

/-- What `padBlock` holds at a position: the given byte, or zero (20_memory.md R68). -/
theorem padBlock_getElem (bs : List Byte) (j : Nat) (hj : j < 8) :
    (padBlock bs)[j] = bs.getD j 0 := by
  simp [padBlock]

/-- Eight given bytes fill the block. -/
theorem padBlock_toList (b : Block) : padBlock b.toList = b := by
  apply Vector.ext
  intro i hi
  simp [padBlock]

/-- The first bytes of a padded block are the given ones (20_memory.md R68). -/
theorem take_padBlock (bs : List Byte) (h : bs.length ≤ 8) :
    (padBlock bs).toList.take bs.length = bs := by
  apply List.ext_getElem
  · simp; omega
  · intro i h1 h2
    simp [padBlock, h2]

/-- Reading back a word of a scratch array (40_key_schedule.md R131). -/
theorem wordAt_ofWords (w0 w4 w8 wC : Word) :
    wordAt (ofWords w0 w4 w8 wC) 0x0 = w0 ∧ wordAt (ofWords w0 w4 w8 wC) 0x4 = w4 ∧
      wordAt (ofWords w0 w4 w8 wC) 0x8 = w8 ∧ wordAt (ofWords w0 w4 w8 wC) 0xC = wC := by
  refine ⟨?_, ?_, ?_, ?_⟩ <;> simp [wordAt, ofWords]

end Sys2Proof.Machine
end

