-- ==== Sys2Proof/Laws/State.lean ====
section
/-! SUPPORT. One lemma per field per update of the state, so that no proof unfolds an update. -/

namespace Sys2Proof.Machine

/-! ### `fail`: only `ERR` -/

@[simp] theorem fail_sched (s : State) (e : Err) : (fail s e).sched = s.sched := rfl
@[simp] theorem fail_cfb (s : State) (e : Err) : (fail s e).cfb = s.cfb := rfl
@[simp] theorem fail_key (s : State) (e : Err) : (fail s e).key = s.key := rfl
@[simp] theorem fail_din (s : State) (e : Err) : (fail s e).din = s.din := rfl
@[simp] theorem fail_dout (s : State) (e : Err) : (fail s e).dout = s.dout := rfl
@[simp] theorem fail_err (s : State) (e : Err) : (fail s e).err = e.code := rfl
@[simp] theorem fail_halt (s : State) (e : Err) : (fail s e).halt = s.halt := rfl
@[simp] theorem fail_inputs (s : State) (e : Err) : (fail s e).inputs = s.inputs := rfl
@[simp] theorem fail_returned (s : State) (e : Err) : (fail s e).returned = s.returned := rfl
@[simp] theorem fail_wipes (s : State) (e : Err) : (fail s e).wipes = s.wipes := rfl

/-! ### `succeed`: only `ERR` -/

@[simp] theorem succeed_sched (s : State) : (succeed s).sched = s.sched := rfl
@[simp] theorem succeed_cfb (s : State) : (succeed s).cfb = s.cfb := rfl
@[simp] theorem succeed_key (s : State) : (succeed s).key = s.key := rfl
@[simp] theorem succeed_din (s : State) : (succeed s).din = s.din := rfl
@[simp] theorem succeed_dout (s : State) : (succeed s).dout = s.dout := rfl
@[simp] theorem succeed_err (s : State) : (succeed s).err = 0 := rfl
@[simp] theorem succeed_halt (s : State) : (succeed s).halt = s.halt := rfl
@[simp] theorem succeed_inputs (s : State) : (succeed s).inputs = s.inputs := rfl
@[simp] theorem succeed_returned (s : State) : (succeed s).returned = s.returned := rfl
@[simp] theorem succeed_wipes (s : State) : (succeed s).wipes = s.wipes := rfl

/-! ### `zeroKey`: only `KEY` -/

@[simp] theorem zeroKey_sched (s : State) : (zeroKey s).sched = s.sched := rfl
@[simp] theorem zeroKey_cfb (s : State) : (zeroKey s).cfb = s.cfb := rfl
@[simp] theorem zeroKey_key (s : State) : (zeroKey s).key = Vector.replicate 4 0 := rfl
@[simp] theorem zeroKey_din (s : State) : (zeroKey s).din = s.din := rfl
@[simp] theorem zeroKey_dout (s : State) : (zeroKey s).dout = s.dout := rfl
@[simp] theorem zeroKey_err (s : State) : (zeroKey s).err = s.err := rfl
@[simp] theorem zeroKey_halt (s : State) : (zeroKey s).halt = s.halt := rfl
@[simp] theorem zeroKey_inputs (s : State) : (zeroKey s).inputs = s.inputs := rfl
@[simp] theorem zeroKey_returned (s : State) : (zeroKey s).returned = s.returned := rfl
@[simp] theorem zeroKey_wipes (s : State) : (zeroKey s).wipes = s.wipes := rfl

/-! ### `failZeroKey`: `ERR` and `KEY` -/

@[simp] theorem failZeroKey_sched (s : State) (e : Err) : (failZeroKey s e).sched = s.sched := rfl
@[simp] theorem failZeroKey_cfb (s : State) (e : Err) : (failZeroKey s e).cfb = s.cfb := rfl
@[simp] theorem failZeroKey_key (s : State) (e : Err) : (failZeroKey s e).key = Vector.replicate 4 0 := rfl
@[simp] theorem failZeroKey_din (s : State) (e : Err) : (failZeroKey s e).din = s.din := rfl
@[simp] theorem failZeroKey_dout (s : State) (e : Err) : (failZeroKey s e).dout = s.dout := rfl
@[simp] theorem failZeroKey_err (s : State) (e : Err) : (failZeroKey s e).err = e.code := rfl
@[simp] theorem failZeroKey_halt (s : State) (e : Err) : (failZeroKey s e).halt = s.halt := rfl
@[simp] theorem failZeroKey_inputs (s : State) (e : Err) : (failZeroKey s e).inputs = s.inputs := rfl
@[simp] theorem failZeroKey_returned (s : State) (e : Err) : (failZeroKey s e).returned = s.returned := rfl
@[simp] theorem failZeroKey_wipes (s : State) (e : Err) : (failZeroKey s e).wipes = s.wipes := rfl

/-! ### `putResult`: only `DOUT` -/

@[simp] theorem putResult_sched (s : State) (o : Block) : (putResult s o).sched = s.sched := rfl
@[simp] theorem putResult_cfb (s : State) (o : Block) : (putResult s o).cfb = s.cfb := rfl
@[simp] theorem putResult_key (s : State) (o : Block) : (putResult s o).key = s.key := rfl
@[simp] theorem putResult_din (s : State) (o : Block) : (putResult s o).din = s.din := rfl
@[simp] theorem putResult_dout (s : State) (o : Block) : (putResult s o).dout = bytesPair o := rfl
@[simp] theorem putResult_err (s : State) (o : Block) : (putResult s o).err = s.err := rfl
@[simp] theorem putResult_halt (s : State) (o : Block) : (putResult s o).halt = s.halt := rfl
@[simp] theorem putResult_inputs (s : State) (o : Block) : (putResult s o).inputs = s.inputs := rfl
@[simp] theorem putResult_returned (s : State) (o : Block) : (putResult s o).returned = s.returned := rfl
@[simp] theorem putResult_wipes (s : State) (o : Block) : (putResult s o).wipes = s.wipes := rfl

/-! ### `putChunk`: only `DOUT` -/

@[simp] theorem putChunk_sched (s : State) (ps : List Byte) : (putChunk s ps).sched = s.sched := rfl
@[simp] theorem putChunk_cfb (s : State) (ps : List Byte) : (putChunk s ps).cfb = s.cfb := rfl
@[simp] theorem putChunk_key (s : State) (ps : List Byte) : (putChunk s ps).key = s.key := rfl
@[simp] theorem putChunk_din (s : State) (ps : List Byte) : (putChunk s ps).din = s.din := rfl
@[simp] theorem putChunk_dout (s : State) (ps : List Byte) : (putChunk s ps).dout = bytesPair (padBlock ps) := rfl
@[simp] theorem putChunk_err (s : State) (ps : List Byte) : (putChunk s ps).err = s.err := rfl
@[simp] theorem putChunk_halt (s : State) (ps : List Byte) : (putChunk s ps).halt = s.halt := rfl
@[simp] theorem putChunk_inputs (s : State) (ps : List Byte) : (putChunk s ps).inputs = s.inputs := rfl
@[simp] theorem putChunk_returned (s : State) (ps : List Byte) : (putChunk s ps).returned = s.returned := rfl
@[simp] theorem putChunk_wipes (s : State) (ps : List Byte) : (putChunk s ps).wipes = s.wipes := rfl

/-! ### `installKey`: only the schedule -/

@[simp] theorem scheduleOf_kv (k : Vector Byte 16) : (scheduleOf k).kv = true := by
  simp only [scheduleOf]

@[simp] theorem installKey_sched (s : State) : (installKey s).sched = scheduleOf (keyOperand s) := by
  simp only [installKey]
@[simp] theorem installKey_cfb (s : State) : (installKey s).cfb = s.cfb := by
  simp only [installKey]
@[simp] theorem installKey_key (s : State) : (installKey s).key = s.key := by
  simp only [installKey]
@[simp] theorem installKey_din (s : State) : (installKey s).din = s.din := by
  simp only [installKey]
@[simp] theorem installKey_dout (s : State) : (installKey s).dout = s.dout := by
  simp only [installKey]
@[simp] theorem installKey_err (s : State) : (installKey s).err = s.err := by
  simp only [installKey]
@[simp] theorem installKey_halt (s : State) : (installKey s).halt = s.halt := by
  simp only [installKey]
@[simp] theorem installKey_inputs (s : State) : (installKey s).inputs = s.inputs := by
  simp only [installKey]
@[simp] theorem installKey_returned (s : State) : (installKey s).returned = s.returned := by
  simp only [installKey]
@[simp] theorem installKey_wipes (s : State) : (installKey s).wipes = s.wipes := by
  simp only [installKey]

/-! ### `zeroSecrets`: all but `ERR`, `HALT` -/

@[simp] theorem zeroSecrets_sched (s : State) : (zeroSecrets s).sched = KeySchedule.zero := rfl
@[simp] theorem zeroSecrets_cfb (s : State) : (zeroSecrets s).cfb = CfbState.zero := rfl
@[simp] theorem zeroSecrets_key (s : State) : (zeroSecrets s).key = Vector.replicate 4 0 := rfl
@[simp] theorem zeroSecrets_din (s : State) : (zeroSecrets s).din = Vector.replicate 2 0 := rfl
@[simp] theorem zeroSecrets_dout (s : State) : (zeroSecrets s).dout = Vector.replicate 2 0 := rfl
@[simp] theorem zeroSecrets_err (s : State) : (zeroSecrets s).err = s.err := rfl
@[simp] theorem zeroSecrets_halt (s : State) : (zeroSecrets s).halt = s.halt := rfl
@[simp] theorem zeroSecrets_inputs (s : State) : (zeroSecrets s).inputs = s.inputs := rfl
@[simp] theorem zeroSecrets_returned (s : State) : (zeroSecrets s).returned = s.returned := rfl
@[simp] theorem zeroSecrets_wipes (s : State) : (zeroSecrets s).wipes = s.wipes := rfl

/-! ### `zeroCore`: every element of the core -/

@[simp] theorem zeroCore_sched (s : State) : (zeroCore s).sched = KeySchedule.zero := rfl
@[simp] theorem zeroCore_cfb (s : State) : (zeroCore s).cfb = CfbState.zero := rfl
@[simp] theorem zeroCore_key (s : State) : (zeroCore s).key = Vector.replicate 4 0 := rfl
@[simp] theorem zeroCore_din (s : State) : (zeroCore s).din = Vector.replicate 2 0 := rfl
@[simp] theorem zeroCore_dout (s : State) : (zeroCore s).dout = Vector.replicate 2 0 := rfl
@[simp] theorem zeroCore_err (s : State) : (zeroCore s).err = 0 := rfl
@[simp] theorem zeroCore_halt (s : State) : (zeroCore s).halt = false := rfl
@[simp] theorem zeroCore_inputs (s : State) : (zeroCore s).inputs = s.inputs := rfl
@[simp] theorem zeroCore_returned (s : State) : (zeroCore s).returned = s.returned := rfl
@[simp] theorem zeroCore_wipes (s : State) : (zeroCore s).wipes = s.wipes := rfl

/-! ### `haltCore`: all but `ERR` -/

@[simp] theorem haltCore_sched (n : Nat) (s : State) : (haltCore n s).sched = residueSched n := rfl
@[simp] theorem haltCore_cfb (n : Nat) (s : State) : (haltCore n s).cfb = residueCfb n := rfl
@[simp] theorem haltCore_key (n : Nat) (s : State) : (haltCore n s).key = Vector.ofFn fun i : Fin 4 => Config.haltResidue n (66 + i.val) := rfl
@[simp] theorem haltCore_din (n : Nat) (s : State) : (haltCore n s).din = Vector.ofFn fun i : Fin 2 => Config.haltResidue n (70 + i.val) := rfl
@[simp] theorem haltCore_dout (n : Nat) (s : State) : (haltCore n s).dout = Vector.ofFn fun i : Fin 2 => Config.haltResidue n (72 + i.val) := rfl
@[simp] theorem haltCore_err (n : Nat) (s : State) : (haltCore n s).err = s.err := rfl
@[simp] theorem haltCore_halt (n : Nat) (s : State) : (haltCore n s).halt = true := rfl
@[simp] theorem haltCore_inputs (n : Nat) (s : State) : (haltCore n s).inputs = s.inputs := rfl
@[simp] theorem haltCore_returned (n : Nat) (s : State) : (haltCore n s).returned = s.returned := rfl
@[simp] theorem haltCore_wipes (n : Nat) (s : State) : (haltCore n s).wipes = s.wipes := rfl

/-! ### `decryptChunk`: the stream and `DOUT` -/

@[simp] theorem decryptChunk_sched (n : Nat) (s : State) : (decryptChunk n s).sched = s.sched := by
  simp only [decryptChunk, putChunk, putResult]
@[simp] theorem decryptChunk_cfb (n : Nat) (s : State) : (decryptChunk n s).cfb = (cfbBytes s.sched (chunkOperand s n) s.cfb).1 := by
  simp only [decryptChunk, putChunk, putResult]
@[simp] theorem decryptChunk_key (n : Nat) (s : State) : (decryptChunk n s).key = s.key := by
  simp only [decryptChunk, putChunk, putResult]
@[simp] theorem decryptChunk_din (n : Nat) (s : State) : (decryptChunk n s).din = s.din := by
  simp only [decryptChunk, putChunk, putResult]
@[simp] theorem decryptChunk_dout (n : Nat) (s : State) : (decryptChunk n s).dout = bytesPair (padBlock (cfbBytes s.sched (chunkOperand s n) s.cfb).2) := by
  simp only [decryptChunk, putChunk, putResult]
@[simp] theorem decryptChunk_err (n : Nat) (s : State) : (decryptChunk n s).err = s.err := by
  simp only [decryptChunk, putChunk, putResult]
@[simp] theorem decryptChunk_halt (n : Nat) (s : State) : (decryptChunk n s).halt = s.halt := by
  simp only [decryptChunk, putChunk, putResult]
@[simp] theorem decryptChunk_inputs (n : Nat) (s : State) : (decryptChunk n s).inputs = s.inputs := by
  simp only [decryptChunk, putChunk, putResult]
@[simp] theorem decryptChunk_returned (n : Nat) (s : State) : (decryptChunk n s).returned = s.returned := by
  simp only [decryptChunk, putChunk, putResult]
@[simp] theorem decryptChunk_wipes (n : Nat) (s : State) : (decryptChunk n s).wipes = s.wipes := by
  simp only [decryptChunk, putChunk, putResult]

end Sys2Proof.Machine
end

