-- ==== Sys2Proof/Laws/Ops.lean ====
section
/-! SUPPORT. What each shared operation can do, said once; proofs cite these and do not unfold the
operations. -/

namespace Sys2Proof.Machine

/-- Everything a command can do (30_encoding.md R105): nothing while halted; the failure of its first
failing check; or its effect. -/
theorem command_cases {s s' : State} {e : Option Err} {f : State → Err → State}
    {g : State → State} (h : command s e f g = .next s') :
    (s.halt = true ∧ s' = s) ∨ (s.halt = false ∧ ∃ x, e = some x ∧ s' = f s x) ∨
      (s.halt = false ∧ e = none ∧ s' = g s) := by
  unfold command at h
  split at h
  · next hh => cases h; exact .inl ⟨hh, rfl⟩
  · next hh =>
    split at h
    · cases h; exact .inr (.inl ⟨by simpa using hh, _, rfl, rfl⟩)
    · cases h; exact .inr (.inr ⟨by simpa using hh, rfl, rfl⟩)

/-- A halted core ignores a command (60_exceptions.md R225). -/
theorem command_halted {s : State} (h : s.halt = true) (e : Option Err) (f : State → Err → State)
    (g : State → State) : command s e f g = .next s := by
  simp [command, h]

theorem command_fails {s : State} (h : s.halt = false) (x : Err) (f : State → Err → State)
    (g : State → State) : command s (some x) f g = .next (f s x) := by
  simp [command, h]

theorem command_runs {s : State} (h : s.halt = false) (f : State → Err → State)
    (g : State → State) : command s none f g = .next (g s) := by
  simp [command, h]

/-- A command always answers a next state (60_exceptions.md R216: nothing fails underway). -/
theorem command_next (s : State) (e : Option Err) (f : State → Err → State) (g : State → State) :
    ∃ s', command s e f g = .next s' := by
  cases hh : s.halt
  · cases e
    · exact ⟨_, command_runs hh f g⟩
    · exact ⟨_, command_fails hh _ f g⟩
  · exact ⟨_, command_halted hh e f g⟩

/-! ### The checks -/

@[simp] theorem lenZero_zero : lenZero 0 = none := rfl
@[simp] theorem lenKey_sixteen : lenKey 16 = none := rfl
@[simp] theorem lenChunk_zero : lenChunk 0 = some .zeroLen := rfl

@[simp] theorem lenZero_eq_none {n : Nat} : lenZero n = none ↔ n = 0 := by simp [lenZero]
@[simp] theorem lenZero_eq_some {n : Nat} {e : Err} :
    lenZero n = some e ↔ n ≠ 0 ∧ e = .badLen := by
  simp [lenZero, @eq_comm _ e]

@[simp] theorem lenKey_eq_none {n : Nat} : lenKey n = none ↔ n = 16 := by simp [lenKey]
@[simp] theorem lenKey_eq_some {n : Nat} {e : Err} :
    lenKey n = some e ↔ n ≠ 16 ∧ e = .keyLen := by
  simp [lenKey, @eq_comm _ e]

@[simp] theorem lenChunk_eq_none {n : Nat} : lenChunk n = none ↔ 1 ≤ n ∧ n ≤ 8 := by
  unfold lenChunk
  repeat' split
  all_goals simp_all
  all_goals omega
@[simp] theorem lenChunk_eq_some {n : Nat} {e : Err} :
    lenChunk n = some e ↔ (n = 0 ∧ e = .zeroLen) ∨ (8 < n ∧ e = .badLen) := by
  unfold lenChunk
  repeat' split
  all_goals simp_all [@eq_comm _ e]

@[simp] theorem needKey_eq_none {s : State} : needKey s = none ↔ s.sched.kv = true := by
  simp [needKey]
@[simp] theorem needKey_eq_some {s : State} {e : Err} :
    needKey s = some e ↔ s.sched.kv = false ∧ e = .noKey := by
  cases h : s.sched.kv <;> simp [needKey, h, @eq_comm _ e]

@[simp] theorem needStream_eq_none {s : State} : needStream s = none ↔ s.cfb.cfba = true := by
  simp [needStream]
@[simp] theorem needStream_eq_some {s : State} {e : Err} :
    needStream s = some e ↔ s.cfb.cfba = false ∧ e = .noStream := by
  cases h : s.cfb.cfba <;> simp [needStream, h, @eq_comm _ e]

@[simp] theorem needIdle_eq_none {s : State} : needIdle s = none ↔ s.cfb.cfba = false := by
  simp [needIdle]
@[simp] theorem needIdle_eq_some {s : State} {e : Err} :
    needIdle s = some e ↔ s.cfb.cfba = true ∧ e = .keyBusy := by
  cases h : s.cfb.cfba <;> simp [needIdle, h, @eq_comm _ e]

/-! ### WIPE -/

/-- Both ends of a WIPE (43_control_ops.md R201). -/
theorem wipeWith_true (s : State) :
    wipeWith true s = { zeroCore s with halt := s.halt, wipes := s.wipes + 1 } := rfl

theorem wipeWith_false (s : State) :
    wipeWith false s = { haltCore s.wipes s with wipes := s.wipes + 1 } := rfl

end Sys2Proof.Machine
end

