-- ==== Sys2Proof/Laws/Cfb.lean ====
section
/-! SUPPORT. The engine's step on one byte and on a chunk (42_cfb_engine.md R171 to R174). -/

namespace Sys2Proof.Machine

@[simp] theorem startStream_eq (iv : Block) :
    startStream iv = { CfbState.zero with fr := iv, cfba := true } := rfl

@[simp] theorem endStream_eq (t : CfbState) :
    endStream t = { CfbState.zero with qcdone := t.qcdone, qcfail := t.qcfail } := rfl

/-- Loading the keystream changes `KS` alone (42_cfb_engine.md R171). -/
theorem loadKeystream_eq (k : KeySchedule) (t : CfbState) :
    loadKeystream k t = { t with ks := if t.pos = 0 then encrypt k t.fr else t.ks } := by
  unfold loadKeystream
  split <;> simp_all

/-- A byte that does not complete its block (42_cfb_engine.md R171). -/
theorem consumeByte_inside {t : CfbState} (c : Byte) (h : t.pos.val < 7) :
    consumeByte c t =
      { t with cb := t.cb.set t.pos.val c, pos := ⟨t.pos.val + 1, by omega⟩ } := by
  rw [consumeByte, dif_neg (by omega)]

/-- The byte that completes its block (42_cfb_engine.md R171). -/
theorem consumeByte_last {t : CfbState} (c : Byte) (h : t.pos.val = 7) :
    consumeByte c t = { t with fr := t.cb.set 7 c, cb := zeroBlock, ks := zeroBlock, pos := 0 } := by
  rw [consumeByte, dif_pos h]

/-- The prefix bookkeeping does nothing once the prefix is over (42_cfb_engine.md R171). -/
theorem notePrefix_over {t : CfbState} (p : Byte) (h : t.pfx.val = 10) : notePrefix p t = t := by
  rw [notePrefix, dif_neg (by omega)]

/-- The tenth byte (42_cfb_engine.md R172, R173). -/
theorem notePrefix_tenth {t : CfbState} (p : Byte) (h : t.pfx.val = 9) :
    notePrefix p t = resync { t with
      pb := t.pb.set 3 p, pfx := 10, qcfail := quickCheckFails (t.pb.set 3 p), qcdone := true } := by
  obtain ⟨fr, ks, cb, pos, pfx, pb, cfba, qcdone, qcfail⟩ := t
  obtain rfl : pfx = 9 := Fin.ext h
  rfl

/-- A prefix byte before the tenth (42_cfb_engine.md R172). -/
theorem notePrefix_early {t : CfbState} (p : Byte) (h : t.pfx.val < 9) :
    notePrefix p t = { t with
      pb := if h6 : 6 ≤ t.pfx.val then t.pb.set (t.pfx.val - 6) p (by omega) else t.pb,
      pfx := ⟨t.pfx.val + 1, by omega⟩ } := by
  rw [notePrefix, dif_pos (by omega)]
  simp only [show ¬ t.pfx.val + 1 = 10 by omega, if_false]
  split <;> simp_all

/-- The keystream block a byte is combined with: a new block's is enciphered from the feedback register
(42_cfb_engine.md R171). -/
def keystreamOf (k : KeySchedule) (t : CfbState) : Block :=
  if t.pos = 0 then encrypt k t.fr else t.ks

/-- One byte, with its keystream block named once: generalise `keystreamOf k t` and the cipher is out of
the way (42_cfb_engine.md R171). -/
theorem cfbByte_eq (k : KeySchedule) (c : Byte) (t : CfbState) :
    cfbByte k c t =
      (notePrefix (c ^^^ (keystreamOf k t)[t.pos]) (consumeByte c { t with ks := keystreamOf k t }),
        c ^^^ (keystreamOf k t)[t.pos]) := by
  simp only [cfbByte, loadKeystream_eq, keystreamOf]

@[simp] theorem cfbBytes_nil (k : KeySchedule) (t : CfbState) : cfbBytes k [] t = (t, []) := rfl

@[simp] theorem cfbBytes_cons (k : KeySchedule) (c : Byte) (cs : List Byte) (t : CfbState) :
    cfbBytes k (c :: cs) t =
      ((cfbBytes k cs (cfbByte k c t).1).1, (cfbByte k c t).2 :: (cfbBytes k cs (cfbByte k c t).1).2) :=
  rfl

/-- One plaintext byte for each ciphertext byte (42_cfb_engine.md R174). -/
@[simp] theorem cfbBytes_length (k : KeySchedule) (cs : List Byte) (t : CfbState) :
    (cfbBytes k cs t).2.length = cs.length := by
  induction cs generalizing t with
  | nil => rfl
  | cons c cs ih => simp [ih]

/-- The bytes of two chunks are those of one after the other (42_cfb_engine.md R174). -/
theorem cfbBytes_append (k : KeySchedule) (a b : List Byte) (t : CfbState) :
    cfbBytes k (a ++ b) t =
      ((cfbBytes k b (cfbBytes k a t).1).1, (cfbBytes k a t).2 ++ (cfbBytes k b (cfbBytes k a t).1).2) := by
  induction a generalizing t with
  | nil => rfl
  | cons c cs ih => simp [ih]

/-- A stream stays active, whatever its bytes (42_cfb_engine.md R178). -/
theorem cfbByte_cfba (k : KeySchedule) (c : Byte) (t : CfbState) :
    (cfbByte k c t).1.cfba = t.cfba := by
  simp only [cfbByte, notePrefix, consumeByte, loadKeystream]
  repeat' split
  all_goals rfl

@[simp] theorem cfbBytes_cfba (k : KeySchedule) (cs : List Byte) (t : CfbState) :
    (cfbBytes k cs t).1.cfba = t.cfba := by
  induction cs generalizing t with
  | nil => rfl
  | cons c cs ih => simp [ih, cfbByte_cfba]

/-- The chunk a CFBDEC finds in a staged `DIN` (20_memory.md R68). -/
theorem chunkOperand_staged (s : State) (c : List Byte) (h : c.length ≤ 8) :
    chunkOperand { s with din := bytesPair (padBlock c) } c.length = c := by
  simp [chunkOperand, take_padBlock c h]

end Sys2Proof.Machine
end

