-- ==== Sys2Proof/Laws/Cipher.lean ====
section
/-! SUPPORT. The block functions and the ROMs (41_block_cipher.md R154, R155; 20_memory.md R62). -/

namespace Sys2Proof.Machine

@[simp] theorem feistelRound_eq (k : KeySchedule) (h : Word × Word) (i : Fin 16) :
    feistelRound k h i = (h.2, h.1 ^^^ roundF k i h.2) := rfl

/-- The output of a block function read back as halves: exchanged (R154). -/
@[simp] theorem halves_exchanged (h : Word × Word) : halves (exchanged h) = (h.2, h.1) := by
  simp [halves, exchanged, pairBytes_eq]

/-- A block is the output whose halves, exchanged, are its own. -/
@[simp] theorem exchanged_halves (b : Block) : exchanged ((halves b).2, (halves b).1) = b := by
  have h : exchanged ((halves b).2, (halves b).1) = pairBytes (bytesPair b) := rfl
  rw [h, pairBytes_bytesPair]

/-- A lookup in a table of 32 rows of eight words is always in range (20_memory.md R62). -/
theorem romRead_inRange (rows : List (List Word)) (h : rows.length = 32)
    (hr : ∀ r ∈ rows, r.length = 8) (a : Byte) : ∃ r ∈ rows, romRead rows a ∈ r := by
  have ha : a.toNat / 8 < rows.length := by have := a.isLt; omega
  have hm : rows[a.toNat / 8] ∈ rows := List.getElem_mem ha
  have hl : a.toNat % 8 < rows[a.toNat / 8].length := by rw [hr _ hm]; omega
  refine ⟨rows[a.toNat / 8], hm, ?_⟩
  simp only [romRead, List.getD_eq_getElem?_getD, List.getElem?_eq_getElem ha, Option.getD_some,
    List.getElem?_eq_getElem hl]
  exact List.getElem_mem hl

end Sys2Proof.Machine
end

