-- ==== Sys2Proof/Laws/Exec.lean ====
section
/-! SUPPORT. What a command, an input and a step can do, said once. -/

namespace Sys2Proof.Machine

/-- The first failing check of a command (30_encoding.md R105 steps 2 and 3). -/
def firstFailing (s : State) : Instr → Option Err
  | .nop n => lenZero n
  | .setkey n => (lenKey n).or (needIdle s)
  | .encblk n => (lenZero n).or (needKey s)
  | .decblk n => (lenZero n).or (needKey s)
  | .cfbinit n => (lenZero n).or (needKey s)
  | .cfbdec n => (lenChunk n).or (needStream s)
  | .cfbend n => (lenZero n).or (needStream s)
  | .wipe n => lenZero n

/-- What a failure of a command does (60_exceptions.md R218). -/
def failureOf : Instr → State → Err → State
  | .setkey _ => failZeroKey
  | .nop _ | .encblk _ | .decblk _ | .cfbinit _ | .cfbdec _ | .cfbend _ | .wipe _ => fail

/-- What a command does once its checks have passed (30_encoding.md R105 step 4). -/
def effectOf : Instr → State → State
  | .nop _, s => succeed s
  | .setkey _, s => succeed (zeroKey (installKey s))
  | .encblk _, s => succeed (putResult s (encrypt s.sched (blockOperand s)))
  | .decblk _, s => succeed (putResult s (decrypt s.sched (blockOperand s)))
  | .cfbinit _, s => succeed { s with cfb := startStream (blockOperand s) }
  | .cfbdec n, s => succeed (decryptChunk n s)
  | .cfbend _, s => succeed { s with cfb := endStream s.cfb }
  | .wipe _, s => wipeWith (Config.zeroizeOk s.wipes) s

/-- Every command is one use of the shared operation `command` (30_encoding.md R105). -/
theorem exec_eq (i : Instr) (s : State) :
    exec i s = command s (firstFailing s i) (failureOf i) (effectOf i) := by
  cases i <;> rfl

/-- Everything a command can do: nothing while halted; the failure of its first failing check; or its
effect (30_encoding.md R105). -/
theorem exec_cases {i : Instr} {s s' : State} (h : exec i s = .next s') :
    (s.halt = true ∧ s' = s) ∨
      (s.halt = false ∧ ∃ e, firstFailing s i = some e ∧ s' = failureOf i s e) ∨
      (s.halt = false ∧ firstFailing s i = none ∧ s' = effectOf i s) := by
  rw [exec_eq] at h
  exact command_cases h

/-- A command leaves the host's side alone: the inputs to come and the words returned. -/
theorem exec_hostSide {i : Instr} {s s' : State} (h : exec i s = .next s') :
    s'.inputs = s.inputs ∧ s'.returned = s.returned := by
  rcases exec_cases h with ⟨_, rfl⟩ | ⟨_, e, _, rfl⟩ | ⟨_, _, rfl⟩
  · exact ⟨rfl, rfl⟩
  · cases i <;> simp [failureOf]
  · cases i with
    | wipe n =>
      simp only [effectOf]
      cases Config.zeroizeOk s.wipes <;> simp [wipeWith_true, wipeWith_false]
    | _ => simp [effectOf]

/-- A halted core ignores every command (60_exceptions.md R225). -/
theorem exec_halted (i : Instr) {s : State} (h : s.halt = true) : exec i s = .next s := by
  rw [exec_eq]
  exact command_halted h _ _ _

/-- What a write of CMD can do (30_encoding.md R105): ignored, `E_BADCMD`, or the decoded command. -/
theorem cmdWrite_cases {s s' : State} {w : Word} (h : cmdWrite s w = .next s') :
    (s.halt = true ∧ s' = s) ∨ (∃ u, decode w = .error u ∧ s.halt = false ∧ s' = fail s .badCmd) ∨
      (∃ i, decode w = .ok i ∧ exec i s = .next s') := by
  unfold cmdWrite at h
  split at h
  · next u hu =>
    rcases command_cases h with ⟨hh, rfl⟩ | ⟨hh, x, hx, rfl⟩ | ⟨_, hx, _⟩
    · exact .inl ⟨hh, rfl⟩
    · cases hx; exact .inr (.inl ⟨u, hu, hh, rfl⟩)
    · cases hx
  · next i hi => exact .inr (.inr ⟨i, hi, h⟩)

/-- What the register map holds at a defined offset (20_memory.md R63). -/
theorem regAt_offset {off : Nat} {r : Reg} (h : regAt off = some r) : off = r.offset := by
  unfold regAt at h
  split at h <;> simp_all [Reg.offset]
  all_goals (subst h; rfl)

/-- What a defined write can do (20_memory.md R65): nothing; a command; or store into `KEY` or `DIN`. -/
theorem regWrite_cases {s s' : State} {off : Nat} {v : Word} (h : regWrite s off v = .next s') :
    s' = s ∨ (s.halt = false ∧ off = 0 ∧ cmdWrite s v = .next s') ∨
      (s.halt = false ∧ ∃ j : Fin 4, off = 0x10 + 4 * j.val ∧ s' = { s with key := s.key.set j v }) ∨
      (s.halt = false ∧ ∃ j : Fin 2, off = 0x20 + 4 * j.val ∧ s' = { s with din := s.din.set j v }) := by
  unfold regWrite at h
  split at h
  · cases h; exact .inl rfl
  · next hh =>
    have hh : s.halt = false := by simpa using hh
    split at h
    · cases h; exact .inl rfl
    · next r hr =>
      have ho := regAt_offset hr
      cases r with
      | cmd => exact .inr (.inl ⟨hh, ho, h⟩)
      | key j => cases h; exact .inr (.inr (.inl ⟨hh, j, ho, rfl⟩))
      | din j => cases h; exact .inr (.inr (.inr ⟨hh, j, ho, rfl⟩))
      | _ => cases h; exact .inl rfl

/-- The accesses that have a meaning (20_memory.md R64). -/
@[simp] theorem undefinedAccess_eq_none {w : Width} {off : Nat} :
    undefinedAccess w off = none ↔ w = .word ∧ off % 4 = 0 ∧ off < 0x40 := by
  unfold undefinedAccess
  repeat' split
  all_goals simp_all

/-- The host's write of CMD: ignored in the fail-stop, otherwise the command (30_encoding.md R105). -/
theorem accept_cmdInput (s : State) (w : Word) :
    accept (cmdInput w) s = if s.halt then .next s else cmdWrite s w := rfl

/-- What taking an input can do (20_memory.md R65, 70_reset_and_hazards.md R250). -/
theorem accept_cases {i : Input} {s s' : State} (h : accept i s = .next s') :
    (∃ off, i = .read .word off ∧ off % 4 = 0 ∧ off < 0x40 ∧
      s' = { s with returned := regRead s off :: s.returned }) ∨
    (∃ off v, i = .write .word off v ∧ off % 4 = 0 ∧ off < 0x40 ∧ regWrite s off v = .next s') ∨
    (i = .reset ∧ s' = zeroCore s) := by
  cases i with
  | read w off =>
    simp only [accept] at h
    split at h
    · cases h
    · next hn =>
      obtain ⟨rfl, h4, h40⟩ := undefinedAccess_eq_none.mp hn
      cases h; exact .inl ⟨off, rfl, h4, h40, rfl⟩
  | write w off v =>
    simp only [accept] at h
    split at h
    · cases h
    · next hn =>
      obtain ⟨rfl, h4, h40⟩ := undefinedAccess_eq_none.mp hn
      exact .inr (.inl ⟨off, v, rfl, h4, h40, h⟩)
  | reset => cases h; exact .inr (.inr ⟨rfl, rfl⟩)

/-- What a step can do: wait, or take the next input. -/
theorem step_cases {s s' : State} (h : step s = .next s') :
    (s.inputs = [] ∧ s' = s) ∨
      (∃ i rest, s.inputs = i :: rest ∧ accept i { s with inputs := rest } = .next s') := by
  unfold step takeInput at h
  split at h
  · next hn =>
    split at hn
    · cases h; exact .inl ⟨by assumption, rfl⟩
    · cases hn
  · next hn =>
    split at hn
    · cases hn
    · cases hn; exact .inr ⟨_, _, by assumption, h⟩

end Sys2Proof.Machine
end

