-- ==== Sys2Proof/Laws/PerInstr.lean ====
section
/-! SUPPORT. Statements for all commands, one lemma per constructor. -/

namespace Sys2Proof.Laws.EncodeFields

/-- The three fields of a command's word: `RSV` zero, `LEN` the length, `OP` the operation
(30_encoding.md R101). -/
def Statement (i : Instr) : Prop :=
  i.wellFormed = true →
    rsvField (encode i) = 0 ∧ (lenField (encode i)).toNat = i.len ∧ opField (encode i) = i.opcode

/-- The word `0 ++ l ++ o` has the fields it is made of. -/
theorem fields (l o : Byte) :
    rsvField ((0 : BitVec 16) ++ l ++ o) = 0 ∧ lenField ((0 : BitVec 16) ++ l ++ o) = l ∧
      opField ((0 : BitVec 16) ++ l ++ o) = o := by
  refine ⟨?_, ?_, ?_⟩ <;>
    (apply BitVec.eq_of_getLsbD_eq
     intro j hj
     simp only [rsvField, lenField, opField, BitVec.getLsbD_extractLsb', BitVec.getLsbD_append]
     grind)

theorem ofLen (i : Instr) : Statement i := by
  intro h
  have hl : i.len < 256 := by simpa [Instr.wellFormed] using h
  have hf := fields (BitVec.ofNat 8 i.len) i.opcode
  exact ⟨hf.1, by rw [encode, hf.2.1]; simp; omega, hf.2.2⟩

theorem nop (len : Nat) : Statement (.nop len) := ofLen _
theorem setkey (len : Nat) : Statement (.setkey len) := ofLen _
theorem encblk (len : Nat) : Statement (.encblk len) := ofLen _
theorem decblk (len : Nat) : Statement (.decblk len) := ofLen _
theorem cfbinit (len : Nat) : Statement (.cfbinit len) := ofLen _
theorem cfbdec (len : Nat) : Statement (.cfbdec len) := ofLen _
theorem cfbend (len : Nat) : Statement (.cfbend len) := ofLen _
theorem wipe (len : Nat) : Statement (.wipe len) := ofLen _

end Sys2Proof.Laws.EncodeFields
end

