-- ==== Sys2Proof/Tests/Slice0.lean ====
section
/-! SUPPORT. The model's own tests. Every expected value is the spec's: the checks of the S-box rules
(20_memory.md R74 to R81), the encodings of 30_encoding.md R101 to R104, the worked examples R135, R160
and R180, and the vectors of 95_test_vectors.md (V10 to V5P). Then a witness for the hypotheses of each
statement of Certificates/Slice0/Obligations.lean. -/

namespace Sys2Proof.Tests

open Sys2Proof Sys2Proof.Machine

/-! ### Helpers -/

/-- The outcome is a next state with a property. -/
def nextIs (o : Host.Outcome State Fault Refusal) (p : State → Bool) : Bool :=
  match o with
  | .next t => p t
  | .fault _ => false
  | .refused _ => false

/-- The exclusive-or of all entries of a ROM. -/
def romXor (f : Byte → Word) : Word :=
  (List.range 256).foldl (fun a i => a ^^^ f (BitVec.ofNat 8 i)) 0

/-- The sum of all entries of a ROM. -/
def romSum (f : Byte → Word) : Word :=
  (List.range 256).foldl (fun a i => a + f (BitVec.ofNat 8 i)) 0

/-- The schedule of 40_key_schedule.md R135. -/
def sched1 : KeySchedule where
  km := #v[0xBC173E26, 0x78A207EF, 0xECE0A7F5, 0x7CB0FB6B,
          0xA5D2D636, 0xD78B9407, 0x56C069D3, 0x82E8240C,
          0x33543749, 0x8813D5C7, 0xB9FCD732, 0x59106B36,
          0x496AF1A9, 0x18F8DC43, 0x8D9DEF0F, 0x83EDA384]
  kr := #v[21, 27, 1, 5, 3, 31, 31, 28, 16, 31, 18, 1, 29, 25, 1, 15]
  kv := true

/-- Reset, with the key of R135 staged. -/
def staged : State := { State.reset with key := #v[0x01234567, 0x12345678, 0x23456789, 0x3456789A] }

/-- The key of R135 is installed; `DIN` holds the plaintext of R160. -/
def keyed : State := { State.reset with sched := sched1, din := #v[0x01234567, 0x89ABCDEF] }

/-- The stream of 42_cfb_engine.md R180 after its first CFBDEC, its second chunk staged. -/
def stream8 : State :=
  { State.reset with
    sched := sched1, din := #v[0xEAADDF41, 0x05BD74B7], dout := #v[0xA1B2C3D4, 0xE5F60718],
    cfb := { fr := #v[0x94, 0x63, 0xE2, 0x30, 0x56, 0x73, 0xCD, 0xAA], ks := zeroBlock,
             cb := zeroBlock, pos := 0, pfx := 8, pb := #v[0x07, 0x18, 0, 0], cfba := true,
             qcdone := false, qcfail := false } }

/-- The same stream one byte earlier, at the eighth byte of its first block. -/
def stream7 : State :=
  { stream8 with
    din := #v[0xAA000000, 0],
    cfb := { stream8.cfb with
      fr := zeroBlock, ks := #v[0x35, 0xD1, 0x21, 0xE4, 0xB3, 0x85, 0xCA, 0xB2],
      cb := #v[0x94, 0x63, 0xE2, 0x30, 0x56, 0x73, 0xCD, 0], pos := 7, pfx := 7,
      pb := #v[0x07, 0, 0, 0] } }

/-- The same stream after nine bytes. -/
def stream9 : State :=
  { stream8 with
    din := #v[0xADDF4105, 0xBD74B700],
    cfb := { stream8.cfb with
      ks := #v[0xED, 0xB5, 0x44, 0xE7, 0xFC, 0x0A, 0x05, 0x30],
      cb := #v[0xEA, 0, 0, 0, 0, 0, 0, 0], pos := 1, pfx := 9, pb := #v[0x07, 0x18, 0x07, 0] } }

/-- The same stream right after the resynchronisation, six more bytes staged. -/
def stream10 : State :=
  { stream8 with
    din := #v[0xDF4105BD, 0x74B70000],
    cfb := { fr := #v[0xE2, 0x30, 0x56, 0x73, 0xCD, 0xAA, 0xEA, 0xAD], ks := zeroBlock,
             cb := zeroBlock, pos := 0, pfx := 10, pb := #v[0x07, 0x18, 0x07, 0x18], cfba := true,
             qcdone := true, qcfail := false } }

/-- The same stream with one byte of a data block to come. -/
def stream17 : State :=
  { stream10 with
    din := #v[0xF1000000, 0],
    cfb := { stream10.cfb with
      ks := #v[0xB7, 0x24, 0x69, 0xD1, 0x1B, 0x97, 0xEB, 0x9E],
      cb := #v[0xDF, 0x41, 0x05, 0xBD, 0x74, 0xB7, 0x9C, 0], pos := 7 } }

/-- A fail-stop. -/
def halted : State := { keyed with halt := true, err := 0xFFFFFFFC }

/-! ### Well-formedness: the checks refuse ill-formed commands -/

theorem test_wellFormed_refuses_256 : (Instr.cfbdec 256).wellFormed = false := by decide
theorem test_wellFormed_admits_255 : (Instr.wipe 255).wellFormed = true := by decide
theorem test_lenAllowed_refuses : (Instr.nop 1).lenAllowed = false ∧ (Instr.setkey 15).lenAllowed = false ∧
    (Instr.setkey 17).lenAllowed = false ∧ (Instr.encblk 1).lenAllowed = false ∧
    (Instr.decblk 8).lenAllowed = false ∧ (Instr.cfbinit 8).lenAllowed = false ∧
    (Instr.cfbdec 0).lenAllowed = false ∧ (Instr.cfbdec 9).lenAllowed = false ∧
    (Instr.cfbend 1).lenAllowed = false ∧ (Instr.wipe 1).lenAllowed = false := by decide
theorem test_lenAllowed_admits : (Instr.setkey 16).lenAllowed = true ∧ (Instr.cfbdec 1).lenAllowed = true ∧
    (Instr.cfbdec 8).lenAllowed = true ∧ (Instr.wipe 0).lenAllowed = true := by decide

/-! ### Decoding of words written out from R101 and R103: `RSV`, then `LEN`, then `OP` -/

theorem test_decode_nop : decode 0b0000000000000000_00000000_00000000 = .ok (.nop 0) := by decide
theorem test_decode_setkey : decode 0b0000000000000000_00010000_00000001 = .ok (.setkey 16) := by decide
theorem test_decode_encblk : decode 0b0000000000000000_00000000_00000010 = .ok (.encblk 0) := by decide
theorem test_decode_decblk : decode 0b0000000000000000_00000000_00000011 = .ok (.decblk 0) := by decide
theorem test_decode_cfbinit : decode 0b0000000000000000_00000000_00000100 = .ok (.cfbinit 0) := by decide
theorem test_decode_cfbdec : decode 0b0000000000000000_00000101_00000101 = .ok (.cfbdec 5) := by decide
theorem test_decode_cfbend : decode 0b0000000000000000_00000000_00000110 = .ok (.cfbend 0) := by decide
theorem test_decode_wipe : decode 0b0000000000000000_10000001_00000111 = .ok (.wipe 129) := by decide

/-- The illegal words of R104: a bit of `RSV`, the first and the last illegal `OP`. -/
theorem test_decode_refuses : decode 0x00010000 = .error .reservedBits ∧
    decode 0x80000001 = .error .reservedBits ∧ decode 0x00010008 = .error .reservedBits ∧
    decode 0x00000008 = .error .reservedOpcode ∧ decode 0x000000FF = .error .reservedOpcode := by decide

theorem test_encode : encode (.setkey 16) = 0x00001001 ∧ encode (.cfbdec 8) = 0x00000805 ∧
    encode (.wipe 255) = 0x0000FF07 := by decide

theorem test_decodeTableWord : decodeTableWord 32 0x00000305 = some (.cfbdec 3) ∧
    decodeTableWord 8 0x02 = some (.encblk 0) ∧ decodeTableWord 32 0x00000009 = none := by decide

/-! ### The S-box ROMs: the checks of R74 to R81 -/

theorem test_S1_checks : S1 0x00 = 0x30FB40D4 ∧ S1 0xFF = 0x5C8165BF ∧ romXor S1 = 0x00000000 ∧
    romSum S1 = 0x25345D58 := by decide +kernel

theorem test_S2_checks : S2 0x00 = 0x1F201094 ∧ S2 0xFF = 0x4523ECF1 ∧ romXor S2 = 0x00000000 ∧
    romSum S2 = 0x4C663718 := by decide +kernel

theorem test_S3_checks : S3 0x00 = 0x8DEFC240 ∧ S3 0xFF = 0xEE353783 ∧ romXor S3 = 0x00000000 ∧
    romSum S3 = 0x27FCD808 := by decide +kernel

theorem test_S4_checks : S4 0x00 = 0x9DB30420 ∧ S4 0xFF = 0x0AEF7ED2 ∧ romXor S4 = 0x00000000 ∧
    romSum S4 = 0xD1762DF8 := by decide +kernel

theorem test_S5_checks : S5 0x00 = 0x7EC90C04 ∧ S5 0xFF = 0xEFE9E7D4 ∧ romXor S5 = 0x00000000 ∧
    romSum S5 = 0x4E775BA8 := by decide +kernel

theorem test_S6_checks : S6 0x00 = 0xF6FA8F9D ∧ S6 0xFF = 0xD675CF2F ∧ romXor S6 = 0x00000000 ∧
    romSum S6 = 0x821CFA18 := by decide +kernel

theorem test_S7_checks : S7 0x00 = 0x85E04019 ∧ S7 0xFF = 0x954B8AA3 ∧ romXor S7 = 0x00000000 ∧
    romSum S7 = 0x2E2DB268 := by decide +kernel

theorem test_S8_checks : S8 0x00 = 0xE216300D ∧ S8 0xFF = 0xEA8BF59E ∧ romXor S8 = 0x00000000 ∧
    romSum S8 = 0x4C7D3248 := by decide +kernel

/-! ### The commands, one step each -/

theorem test_nop : nextIs (exec (.nop 0) { keyed with err := 0xFFFFFFFB }) (fun t => t == keyed) = true := by
  decide +kernel
theorem test_nop_len : nextIs (exec (.nop 1) keyed) (fun t => t.err == 0xFFFFFFFC) = true := by
  decide +kernel

/-- R135. -/
theorem test_setkey : nextIs (exec (.setkey 16) staged)
    (fun t => t == { State.reset with sched := sched1 }) = true := by decide +kernel
/-- V5H: `E_KEYBUSY`, the schedule kept, `KEY` zeroed. -/
theorem test_setkey_busy : nextIs (exec (.setkey 16) { stream8 with key := staged.key })
    (fun t => t == { stream8 with err := 0xFFFFFFF9 }) = true := by decide +kernel

/-- V24a. -/
theorem test_encblk : nextIs (exec (.encblk 0) keyed)
    (fun t => t == { keyed with dout := #v[0x238B4FE5, 0x847E44B2] }) = true := by decide +kernel
/-- V52: the length is checked before the key. -/
theorem test_encblk_len : nextIs (exec (.encblk 1) State.reset)
    (fun t => t == { State.reset with err := 0xFFFFFFFC }) = true := by decide +kernel

/-- V24a. -/
theorem test_decblk : nextIs (exec (.decblk 0) keyed)
    (fun t => t == { keyed with dout := #v[0xE68A09AB, 0x9300385B] }) = true := by decide +kernel
/-- V50. -/
theorem test_decblk_noKey : nextIs (exec (.decblk 0) State.reset)
    (fun t => t == { State.reset with err := 0xFFFFFFFB }) = true := by decide +kernel

/-- V5N: an active stream is replaced, `DOUT` kept. -/
theorem test_cfbinit : nextIs (exec (.cfbinit 0) stream9) (fun t =>
    t.cfb == { CfbState.zero with fr := #v[0xAD, 0xDF, 0x41, 0x05, 0xBD, 0x74, 0xB7, 0], cfba := true }
      && t.dout == stream9.dout && statusWord t == 0x00000003) = true := by decide +kernel
/-- V51. -/
theorem test_cfbinit_noKey : nextIs (exec (.cfbinit 0) State.reset)
    (fun t => t == { State.reset with err := 0xFFFFFFFB }) = true := by decide +kernel

/-- R180, second chunk: the check, the resynchronisation and six bytes of data. -/
theorem test_cfbdec : nextIs (exec (.cfbdec 8) stream8) (fun t =>
    t.dout == #v[0x07186865, 0x6C6C6F20] && t.cfb.fr == stream10.cfb.fr
      && t.cfb.ks == #v[0xB7, 0x24, 0x69, 0xD1, 0x1B, 0x97, 0xEB, 0x9E]
      && t.cfb.cb == #v[0xDF, 0x41, 0x05, 0xBD, 0x74, 0xB7, 0, 0] && t.cfb.pb == stream10.cfb.pb
      && statusWord t == 0x0000A607) = true := by decide +kernel
/-- V53: the length is checked before the stream. -/
theorem test_cfbdec_zero : nextIs (exec (.cfbdec 0) State.reset)
    (fun t => t == { State.reset with err := 0xFFFFFFFD }) = true := by decide +kernel

/-- R175: the stream ends in the middle of a block, the quick check is kept. -/
theorem test_cfbend : nextIs (exec (.cfbend 0) stream17) (fun t =>
    t.cfb == { CfbState.zero with qcdone := true } && statusWord t == 0x00000005) = true := by
  decide +kernel
/-- V5C. -/
theorem test_cfbend_noStream : nextIs (exec (.cfbend 0) keyed)
    (fun t => t == { keyed with err := 0xFFFFFFFA }) = true := by decide +kernel

/-- R201, both ends; the outcome of the verification is free. -/
theorem test_wipe_succeeds : wipeWith true stream9 = { State.reset with wipes := 1 } := by
  decide +kernel
theorem test_wipe_halts : (wipeWith false halted).halt = true ∧
    (wipeWith false { stream9 with err := 0xFFFFFFFC }).err = 0xFFFFFFFC ∧
    statusWord (wipeWith false stream9) = 0x00000020 := by decide

/-! ### Steps and accesses -/

theorem test_step_fetches : nextIs (step (State.reset.withFetchWord 32 0x00000104))
    (fun t => t == { State.reset with err := 0xFFFFFFFC }) = true := by decide +kernel
/-- V43: the word did not decode as SETKEY, `KEY` is kept. -/
theorem test_step_badCmd : nextIs (step (staged.withFetchWord 32 0x80000001))
    (fun t => t == { staged with err := 0xFFFFFFFF }) = true := by decide +kernel
theorem test_read_dout : nextIs (accept (.read .word 0x28) stream8)
    (fun t => t.returned == [0xA1B2C3D4]) = true := by decide +kernel
/-- R225: what reads deliver in the fail-stop. -/
theorem test_read_halted :
    nextIs (accept (.read .word 0x08) halted) (fun t => t.returned == [0]) = true ∧
    nextIs (accept (.read .word 0x04) halted) (fun t => t.returned == [0x00000020]) = true := by
  decide +kernel
theorem test_write_key : nextIs (accept (.write .word 0x1C 0x3456789A) State.reset)
    (fun t => t.key == #v[0, 0, 0, 0x3456789A]) = true := by decide +kernel
theorem test_misaligned_refused : accept (.read .word 0x06) keyed = .refused .misalignedAccess := by rfl

/-- V14, V15, V16: one vector of each round function. -/
theorem test_round_functions : roundType1 0x12345678 7 0x89ABCDEF = 0x0AE707E2 ∧
    roundType2 0xFFFFFFFF 31 0x00000001 = 0xF97ED6CD ∧
    roundType3 0xFFFFFFFF 31 0x00000001 = 0x56A1FF2B := by decide +kernel

/-! ### Witnesses: the hypotheses of the statements are met -/

theorem test_witness_DecodeAfterEncodeIsTheCommand : (Instr.cfbdec 255).wellFormed = true ∧
    (Instr.nop 0).wellFormed = true := by decide
theorem test_witness_EncodeAfterDecodeIsTheWord : decode 0x0000FF05 = .ok (.cfbdec 255) := by decide
theorem test_witness_MaskAndMatchSelectTheOperation : (0x0000FF07 : Word) &&& 0xFFFF00FF = 0x00000007 ∧
    255 = (0x0000FF07 : Word).toNat / 256 % 256 := by decide
theorem test_witness_IllegalWords : State.reset.halt = false ∧
    (0x00010000 : Word).extractLsb' 16 16 ≠ 0 ∧ 7 < ((0x00000008 : Word).extractLsb' 0 8).toNat := by
  decide
theorem test_witness_IllegalWords_len : State.reset.halt = false ∧
    decode 0x00000F01 = .ok (.setkey 15) ∧ (Instr.setkey 15).lenAllowed = false ∧
    decode 0x00000005 = .ok (.cfbdec 0) ∧ (Instr.cfbdec 0).lenAllowed = false ∧
    decode 0x00000905 = .ok (.cfbdec 9) ∧ (Instr.cfbdec 9).lenAllowed = false := by decide
theorem test_witness_StepRunsTheDecodedCommand :
    (staged.withFetchWord 32 0x00001001).inputs = cmdInput 0x00001001 :: [] ∧
    decode 0x00001001 = .ok (.setkey 16) := by decide
theorem test_witness_StepTakesTheNextInput : State.reset.inputs = [] ∧
    ({ keyed with inputs := [.reset] } : State).inputs = .reset :: [] := by decide
theorem test_witness_UndefinedAccessesAreRefused : (Width.half ≠ .word) ∧ 0x3D % 4 ≠ 0 ∧ 0x40 ≤ 0x40 ∧
    0x3C % 4 = 0 ∧ 0x3C < 0x40 := by decide
theorem test_witness_ReadsReturnTheirRegister : State.reset.halt = false ∧ 0x3C % 4 = 0 ∧ 0x3C < 0x40 ∧
    0x00 % 4 = 0 := by decide
theorem test_witness_WritesStoreOrAreIgnored : State.reset.halt = false ∧
    0x3C ∈ [0x04, 0x08, 0x0C, 0x28, 0x2C, 0x30, 0x34, 0x38, 0x3C] := by decide
theorem test_witness_StatusShowsItsFields : keyed.halt = false ∧ halted.halt = true := by decide
theorem test_witness_HiddenStateIsUnreadable :
    SameVisible stream9 { stream9 with sched := { sched1 with kr := Vector.replicate 16 0 } } := by
  refine ⟨?_, ?_, ?_, ?_, ?_, ?_, ?_, ?_, ?_, ?_⟩ <;> rfl
/-- For NOP, SETKEY, ENCBLK, DECBLK, CFBINIT, CFBDEC, CFBEND and WIPE: each clause of their statements. -/
theorem test_witness_commands_without_stream : keyed.halt = false ∧ keyed.cfb.cfba = false ∧
    keyed.sched.kv = true ∧ 1 ≠ 0 ∧ 15 ≠ 16 ∧ 17 ≠ 16 := by decide
theorem test_witness_commands_in_a_stream : stream8.halt = false ∧ stream8.cfb.cfba = true ∧
    1 ≤ 1 ∧ 1 ≤ 8 ∧ 8 ≤ 8 ∧ 8 < 9 := by decide
theorem test_witness_commands_without_key : State.reset.halt = false ∧ State.reset.sched.kv = false ∧
    State.reset.cfb.cfba = false := by decide
theorem test_witness_RoundFunctionsCombineFourLookups : (15 : Fin 16).val % 3 = 0 ∧
    (1 : Fin 16).val % 3 = 1 ∧ (14 : Fin 16).val % 3 = 2 := by decide
/-- For EncblkRunsSixteenRounds, DecblkRunsTheRoundsInReverse, EncblkAndDecblkAreInverse. -/
theorem test_witness_block_functions : keyed.halt = false ∧ keyed.sched.kv = true := by decide
theorem test_witness_SetkeyExtractsTheSubkeys : staged.halt = false ∧ staged.cfb.cfba = false := by decide
theorem test_witness_TenthByteChecksAndResynchronises : stream9.halt = false ∧
    stream9.cfb.cfba = true ∧ stream9.cfb.pfx = 9 ∧ stream9.cfb.pos = 1 := by decide
theorem test_witness_PrefixBytesAreDecryptedAndKept : stream8.halt = false ∧ stream8.cfb.cfba = true ∧
    stream8.cfb.pfx.val < 9 ∧ stream8.cfb.pos.val < 7 := by decide
/-- The other clause, at the eighth byte of the first block: the step leaves the stream of R180. -/
theorem test_witness_PrefixBytes_last : stream7.halt = false ∧ stream7.cfb.cfba = true ∧
    stream7.cfb.pfx.val < 9 ∧ stream7.cfb.pos.val = 7 ∧
    nextIs (exec (.cfbdec 1) stream7) (fun t => t.cfb == stream8.cfb) = true := by decide +kernel
theorem test_witness_DataBytesAreDecrypted : stream10.halt = false ∧ stream10.cfb.cfba = true ∧
    stream10.cfb.pfx = 10 ∧ stream10.cfb.pos.val < 7 := by decide
theorem test_witness_DataBytes_last : stream17.halt = false ∧ stream17.cfb.cfba = true ∧
    stream17.cfb.pfx = 10 ∧ stream17.cfb.pos.val = 7 := by decide
theorem test_witness_DataBlocksFollowTheBlockwiseChain : stream10.halt = false ∧
    stream10.cfb.cfba = true ∧ stream10.cfb.pfx = 10 ∧ stream10.cfb.pos = 0 := by decide
/-- For CfbdecCountsThePrefix and QuickCheckResultAltersNoDecryption. -/
theorem test_witness_chunks : stream10.halt = false ∧ stream10.cfb.cfba = true ∧ stream10.cfb.pfx = 10 ∧
    1 ≤ 8 ∧ 8 ≤ 8 := by decide
theorem test_witness_ChunkingDoesNotMatter : stream8.halt = false ∧ stream8.cfb.cfba = true ∧
    (∀ c ∈ ([[0xEA], [0xAD, 0xDF]] : List (List Byte)), 1 ≤ c.length ∧ c.length ≤ 8) ∧
    (∀ c ∈ ([[0xEA, 0xAD, 0xDF]] : List (List Byte)), 1 ≤ c.length ∧ c.length ≤ 8) ∧
    ([[0xEA], [0xAD, 0xDF]] : List (List Byte)).flatten = [[0xEA, 0xAD, 0xDF]].flatten := by decide
/-- The first eleven bytes of the stream of R180, from its random block and the letter `h`. -/
theorem test_witness_StreamDecryptsTheProducersCiphertext :
    let s : State := { State.reset with sched := sched1 }
    let xs : List (List Byte) := [[0x94, 0x63, 0xE2, 0x30, 0x56, 0x73, 0xCD, 0xAA], [0xEA, 0xAD, 0xDF]]
    s.halt = false ∧ s.sched.kv = true ∧ (∀ c ∈ xs, 1 ≤ c.length ∧ c.length ≤ 8) ∧
      xs.flatten = produce s.sched (pairBytes s.din)
        #v[0xA1, 0xB2, 0xC3, 0xD4, 0xE5, 0xF6, 0x07, 0x18] [0x68] := by decide +kernel
theorem test_inv_stream8 : LiveInv stream8 := by decide +kernel
theorem test_inv_stream9 : LiveInv stream9 := by decide +kernel
theorem test_inv_stream17 : LiveInv stream17 := by decide +kernel
theorem test_inv_keyed : LiveInv keyed := by decide +kernel
theorem test_witness_EveryStepKeepsTheInvariant : Machine.Inv stream9 ∧
    nextIs (step (stream9.withFetchWord 32 0x00000105)) (fun t => t.cfb.pfx == 10) = true :=
  ⟨.inr test_inv_stream9, by decide +kernel⟩
theorem test_witness_FailuresChangeOnlyErrAndKey : State.reset.halt = false ∧
    nextIs (accept (cmdInput 0x00000002) State.reset) (fun t => !t.halt && t.err != 0) = true ∧
    nextIs (accept (cmdInput 0x00000501) State.reset) (fun t => !t.halt && t.err != 0) = true ∧
    nextIs (accept (cmdInput 0x000000FF) State.reset) (fun t => !t.halt && t.err != 0) = true := by
  decide +kernel
theorem test_witness_CommandsRaiseOnlyTheirCodes : State.reset.halt = false := by decide
theorem test_witness_HaltIsAFailStop : keyed.halt = false ∧
    nextIs (accept (cmdInput 0x00000000) keyed) (fun t => !t.halt) = true ∧ halted.halt = true ∧
    nextIs (accept .reset halted) (fun t => !t.halt) = true ∧ 0x3C % 4 = 0 ∧ 0x3C < 0x40 := by
  decide +kernel
/-- Inputs that change the schedule, `DOUT`, the staging registers and the quick-check flags. -/
theorem test_witness_changes :
    nextIs (accept (cmdInput 0x00001001) staged) (fun t => t.sched != staged.sched) = true ∧
    nextIs (accept (cmdInput 0x00000805) stream8) (fun t => t.dout != stream8.dout) = true ∧
    nextIs (accept (.write .word 0x24 1) keyed) (fun t => t.din != keyed.din) = true ∧
    nextIs (accept (.write .word 0x10 1) keyed) (fun t => t.key != keyed.key) = true ∧
    nextIs (accept (cmdInput 0x00000105) stream9) (fun t => t.cfb.qcdone) = true ∧
    nextIs (accept (cmdInput 0x00000004) stream10) (fun t => !t.cfb.qcdone) = true ∧
    nextIs (accept .reset stream10) (fun t => t == State.reset) = true := by decide +kernel
theorem test_witness_CommandsMoveTheCoarseStateAsTabled : Machine.Inv keyed ∧
    Machine.Inv stream8 ∧ Machine.Inv halted ∧ (Instr.cfbdec 8).lenAllowed = true :=
  ⟨.inr test_inv_keyed, .inr test_inv_stream8, .inl rfl, by decide⟩
theorem test_witness_WipeLeavesNoTraceOfTheSecrets : stream9.halt = false ∧ State.reset.halt = false ∧
    stream9.wipes = State.reset.wipes := by decide

end Sys2Proof.Tests
end

namespace Sys2Proof.Machine

/-! ### A step and the input it takes (00_scope.md R6) -/

/-- With no input pending the core waits (60_exceptions.md R218; log entry 2). -/
theorem step_of_inputs_nil {s : State} (h : s.inputs = []) : step s = .next s := by
  simp only [step, takeInput, h]

theorem step_of_inputs_cons {s : State} {i : Input} {rest : List Input} (h : s.inputs = i :: rest) :
    step s = accept i { s with inputs := rest } := by
  simp only [step, takeInput, h]

theorem cmdWrite_of_decode_ok {w : Word} {i : Instr} (h : decode w = .ok i) (s : State) :
    cmdWrite s w = exec i s := by
  simp only [cmdWrite, h]

/-- The host's write of a word that decodes is its command, in the fail-stop too: there the write is
ignored, and so is the command (60_exceptions.md R225). -/
theorem accept_cmdInput_of_decode_ok {w : Word} {i : Instr} (h : decode w = .ok i) (s : State) :
    accept (cmdInput w) s = exec i s := by
  rw [accept_cmdInput]
  split
  · next hhalt => exact (exec_halted i hhalt).symm
  · exact cmdWrite_of_decode_ok h s

/-- Settles O6: the step accepts the pending CMD write, and accepting it is executing the command. -/
theorem stepRunsTheDecodedCommand : Obligations.StepRunsTheDecodedCommand := by
  intro s w i rest hinputs hdecode
  calc step s = accept (cmdInput w) { s with inputs := rest } := step_of_inputs_cons hinputs
    _ = exec i { s with inputs := rest } := accept_cmdInput_of_decode_ok hdecode _

/-- Settles O7: the two cases of the list of inputs. -/
theorem stepTakesTheNextInput : Obligations.StepTakesTheNextInput :=
  fun _ => ⟨step_of_inputs_nil, fun _ _ => step_of_inputs_cons⟩

end Sys2Proof.Machine

namespace Sys2Proof.Machine

/-! ### Words and commands (30_encoding.md R101) -/

/-- What a decoded command carries: the operation and the length it was decoded from (R103). -/
theorem decodeOp_eq_ok {op len : Nat} {i : Instr} (h : decodeOp op len = .ok i) :
    i.opcode.toNat = op ∧ i.len = len := by
  unfold decodeOp at h
  split at h <;> cases h <;> exact ⟨rfl, rfl⟩

/-- A word is made of its three fields (R101). -/
theorem fields_append (w : Word) : rsvField w ++ lenField w ++ opField w = w := by
  have hhigh : rsvField w ++ lenField w = w.extractLsb' 8 24 :=
    BitVec.extractLsb'_append_extractLsb'_eq_extractLsb' rfl
  have hall : w.extractLsb' 8 24 ++ opField w = w.extractLsb' 0 32 :=
    BitVec.extractLsb'_append_extractLsb'_eq_extractLsb' rfl
  rw [hhigh, hall, BitVec.extractLsb'_eq_self]

/-- A command word is determined by its command: the fields a command does not carry are zero. -/
theorem encode_of_decode {w : Word} {i : Instr} (h : decode w = .ok i) : encode i = w := by
  unfold decode at h
  split at h
  · cases h
  · next hrsv =>
    obtain ⟨hop, hlen⟩ := decodeOp_eq_ok h
    have hrsv : rsvField w = 0 := by simpa using hrsv
    have hop : i.opcode = opField w := BitVec.eq_of_toNat_eq hop
    have hlen : BitVec.ofNat 8 i.len = lenField w := by simp [hlen]
    calc encode i = rsvField w ++ lenField w ++ opField w := by rw [encode, hop, hlen, hrsv]
      _ = w := fields_append w

theorem decode_wipe : decode 0x00000007 = .ok (.wipe 0) := by decide

theorem eq_of_decode_wipe {w : Word} (h : decode w = .ok (.wipe 0)) : w = 0x00000007 :=
  (encode_of_decode h).symm.trans (by decide)

theorem eq_of_decode_cfbinit {w : Word} (h : decode w = .ok (.cfbinit 0)) : w = 0x00000004 :=
  (encode_of_decode h).symm.trans (by decide)

/-! ### What an input can do, down to the effect of a command -/

/-- The answers of the core to an input (20_memory.md R65, 30_encoding.md R105, 70_reset_and_hazards.md
R250); that there is no other is `answer_of_accept`. -/
inductive Answer (s : State) : Input → State → Prop where
  /-- A read delivers its word to the host. -/
  | read (off : Nat) :
      Answer s (.read .word off) { s with returned := regRead s off :: s.returned }
  /-- A write of a read-only or reserved offset, and in the fail-stop any write. -/
  | ignored (off : Nat) (v : Word) : Answer s (.write .word off v) s
  /-- A write of `KEY[j]`. -/
  | storedKey (j : Fin 4) (v : Word) : s.halt = false →
      Answer s (.write .word (0x10 + 4 * j.val) v) { s with key := s.key.set j v }
  /-- A write of `DIN[j]`. -/
  | storedDin (j : Fin 2) (v : Word) : s.halt = false →
      Answer s (.write .word (0x20 + 4 * j.val) v) { s with din := s.din.set j v }
  /-- A CMD write of a word that is no command (30_encoding.md R104). -/
  | badCmd (w : Word) : s.halt = false → Answer s (cmdInput w) (fail s .badCmd)
  /-- A command with a failing check (60_exceptions.md R218). -/
  | failed (w : Word) (c : Instr) (e : Err) : s.halt = false → decode w = .ok c →
      firstFailing s c = some e → Answer s (cmdInput w) (failureOf c s e)
  /-- A command whose checks pass. -/
  | done (w : Word) (c : Instr) : s.halt = false → decode w = .ok c → firstFailing s c = none →
      Answer s (cmdInput w) (effectOf c s)
  /-- A reset. -/
  | reset : Answer s .reset (zeroCore s)

theorem answer_of_cmdWrite {s t : State} {w : Word} (hhalt : s.halt = false)
    (h : cmdWrite s w = .next t) : Answer s (cmdInput w) t := by
  rcases cmdWrite_cases h with ⟨hh, _⟩ | ⟨_, _, _, rfl⟩ | ⟨c, hc, hexec⟩
  · simp [hhalt] at hh
  · exact .badCmd w hhalt
  · rcases exec_cases hexec with ⟨hh, _⟩ | ⟨_, e, he, rfl⟩ | ⟨_, hnone, rfl⟩
    · simp [hhalt] at hh
    · exact .failed w c e hhalt hc he
    · exact .done w c hhalt hc hnone

/-- The register accesses, the decoder and the checks of a command, taken apart once for every claim of
the form "only these inputs change this element". -/
theorem answer_of_accept {i : Input} {s t : State} (h : accept i s = .next t) : Answer s i t := by
  rcases accept_cases h with ⟨off, rfl, _, _, rfl⟩ | ⟨off, v, rfl, _, _, hw⟩ | ⟨rfl, rfl⟩
  · exact .read off
  · rcases regWrite_cases hw with rfl | ⟨hh, rfl, hcmd⟩ | ⟨hh, j, rfl, rfl⟩ | ⟨hh, j, rfl, rfl⟩
    · exact .ignored off v
    · exact answer_of_cmdWrite hh hcmd
    · exact .storedKey j v hh
    · exact .storedDin j v hh
  · exact .reset

/-! ### The commands whose checks pass (30_encoding.md R105) -/

theorem firstFailing_encblk_eq_none {s : State} {n : Nat} :
    firstFailing s (.encblk n) = none ↔ n = 0 ∧ s.sched.kv = true := by simp [firstFailing]
theorem firstFailing_decblk_eq_none {s : State} {n : Nat} :
    firstFailing s (.decblk n) = none ↔ n = 0 ∧ s.sched.kv = true := by simp [firstFailing]
theorem firstFailing_cfbinit_eq_none {s : State} {n : Nat} :
    firstFailing s (.cfbinit n) = none ↔ n = 0 ∧ s.sched.kv = true := by simp [firstFailing]
theorem firstFailing_cfbdec_eq_none {s : State} {n : Nat} :
    firstFailing s (.cfbdec n) = none ↔ (1 ≤ n ∧ n ≤ 8) ∧ s.cfb.cfba = true := by simp [firstFailing]

/-! ### The frame of a failing command (60_exceptions.md R218) -/

@[simp] theorem failureOf_sched (c : Instr) (s : State) (e : Err) :
    (failureOf c s e).sched = s.sched := by cases c <;> rfl
@[simp] theorem failureOf_cfb (c : Instr) (s : State) (e : Err) :
    (failureOf c s e).cfb = s.cfb := by cases c <;> rfl
@[simp] theorem failureOf_din (c : Instr) (s : State) (e : Err) :
    (failureOf c s e).din = s.din := by cases c <;> rfl
@[simp] theorem failureOf_dout (c : Instr) (s : State) (e : Err) :
    (failureOf c s e).dout = s.dout := by cases c <;> rfl
@[simp] theorem failureOf_err (c : Instr) (s : State) (e : Err) :
    (failureOf c s e).err = e.code := by cases c <;> rfl
@[simp] theorem failureOf_halt (c : Instr) (s : State) (e : Err) :
    (failureOf c s e).halt = s.halt := by cases c <;> rfl

/-- A failure keeps `KEY`, unless the command decoded as SETKEY. -/
theorem failureOf_key (c : Instr) (s : State) (e : Err) :
    (failureOf c s e).key = s.key ∨ ∃ n, c = .setkey n ∧ (failureOf c s e).key = Vector.replicate 4 0 := by
  cases c with
  | setkey n => exact .inr ⟨n, rfl, rfl⟩
  | _ => exact .inl rfl

/-! ### WIPE -/

/-- A WIPE halts, or every register that held a secret is zero (43_control_ops.md R201). -/
theorem wipeWith_halt_or_zero (ok : Bool) (s : State) :
    (wipeWith ok s).halt = true ∨
      ((wipeWith ok s).cfb = CfbState.zero ∧ (wipeWith ok s).key = Vector.replicate 4 0 ∧
        (wipeWith ok s).din = Vector.replicate 2 0 ∧ (wipeWith ok s).dout = Vector.replicate 2 0) := by
  cases ok with
  | true => exact .inr ⟨rfl, rfl, rfl, rfl⟩
  | false => exact .inl rfl

@[simp] theorem wipeWith_halt (ok : Bool) {s : State} (h : s.halt = false) :
    (wipeWith ok s).halt = !ok := by
  cases ok with
  | true => exact h
  | false => rfl

/-- The WIPE that halts does not update `ERR` (60_exceptions.md R225). -/
theorem wipeWith_err_of_halt {ok : Bool} {s : State} (hs : s.halt = false)
    (h : (wipeWith ok s).halt = true) : (wipeWith ok s).err = s.err := by
  cases ok with
  | true => simp [hs] at h
  | false => rfl

theorem accept_wipe {s : State} (h : s.halt = false) :
    accept (cmdInput 0x00000007) s = .next (wipeWith (Config.zeroizeOk s.wipes) s) := by
  rw [accept_cmdInput_of_decode_ok decode_wipe, exec_eq]
  exact command_runs h _ _

/-- Of all commands only WIPE can set `HALT` (10_state.md R39). -/
theorem effectOf_halt {c : Instr} {s : State} (hs : s.halt = false)
    (h : (effectOf c s).halt = true) : ∃ n, c = .wipe n ∧ Config.zeroizeOk s.wipes = false := by
  cases c with
  | wipe n => exact ⟨n, rfl, by simpa [effectOf, hs] using h⟩
  | _ => simp [effectOf, hs] at h

/-! ### The engine on one byte: counters and flags (42_cfb_engine.md R171, R172) -/

@[simp] theorem consumeByte_pfx (c : Byte) (t : CfbState) : (consumeByte c t).pfx = t.pfx := by
  unfold consumeByte; split <;> rfl
@[simp] theorem consumeByte_qcdone (c : Byte) (t : CfbState) :
    (consumeByte c t).qcdone = t.qcdone := by unfold consumeByte; split <;> rfl
@[simp] theorem consumeByte_qcfail (c : Byte) (t : CfbState) :
    (consumeByte c t).qcfail = t.qcfail := by unfold consumeByte; split <;> rfl

/-- `POS` counts the bytes of a block modulo its length (10_state.md R27). -/
theorem consumeByte_pos (c : Byte) (t : CfbState) :
    (consumeByte c t).pos.val = (t.pos.val + 1) % 8 := by
  by_cases h : t.pos.val = 7
  · simp [consumeByte_last c h, h]
  · have h7 : t.pos.val < 7 := by omega
    simp only [consumeByte_inside c h7]
    omega

/-- Every byte but the tenth of a stream: `Prefix(p)` touches `PFX` and `PB` alone. -/
theorem notePrefix_of_pfx_ne {t : CfbState} (p : Byte) (h : t.pfx.val ≠ 9) :
    ∃ pfx pb, pfx.val = min 10 (t.pfx.val + 1) ∧ notePrefix p t = { t with pfx := pfx, pb := pb } := by
  by_cases h9 : t.pfx.val < 9
  · exact ⟨_, _, by simp; omega, notePrefix_early p h9⟩
  · have h10 : t.pfx.val = 10 := by omega
    exact ⟨t.pfx, t.pb, by omega, notePrefix_over p h10⟩

theorem notePrefix_pfx (p : Byte) (t : CfbState) :
    (notePrefix p t).pfx.val = min 10 (t.pfx.val + 1) := by
  by_cases h : t.pfx.val = 9
  · simp [notePrefix_tenth p h, resync, h]
  · obtain ⟨pfx, pb, hpfx, heq⟩ := notePrefix_of_pfx_ne p h
    rw [heq]
    exact hpfx

/-- The resynchronisation begins a fresh block (42_cfb_engine.md R173). -/
theorem notePrefix_pos (p : Byte) (t : CfbState) :
    (notePrefix p t).pos = if t.pfx.val = 9 then 0 else t.pos := by
  split
  · next h => rw [notePrefix_tenth p h]; rfl
  · next h =>
    obtain ⟨pfx, pb, -, heq⟩ := notePrefix_of_pfx_ne p h
    rw [heq]

theorem cfbByte_pfx (k : KeySchedule) (c : Byte) (t : CfbState) :
    (cfbByte k c t).1.pfx.val = min 10 (t.pfx.val + 1) := by
  rw [cfbByte_eq, notePrefix_pfx, consumeByte_pfx]

theorem cfbByte_pos (k : KeySchedule) (c : Byte) (t : CfbState) :
    (cfbByte k c t).1.pos.val = if t.pfx.val = 9 then 0 else (t.pos.val + 1) % 8 := by
  rw [cfbByte_eq, notePrefix_pos, consumeByte_pfx]
  split
  · rfl
  · exact consumeByte_pos c _

/-- The byte of stream index 9 makes the quick check (10_state.md R31). -/
theorem cfbByte_qcdone_of_pfx_eq {t : CfbState} (k : KeySchedule) (c : Byte) (h : t.pfx.val = 9) :
    (cfbByte k c t).1.qcdone = true := by
  rw [cfbByte_eq, notePrefix_tenth _ (by rwa [consumeByte_pfx])]
  rfl

/-- No other byte writes the quick-check flags (10_state.md R31, R32). -/
theorem cfbByte_flags_of_pfx_ne {t : CfbState} (k : KeySchedule) (c : Byte) (h : t.pfx.val ≠ 9) :
    (cfbByte k c t).1.qcdone = t.qcdone ∧ (cfbByte k c t).1.qcfail = t.qcfail := by
  have hpfx : (consumeByte c { t with ks := keystreamOf k t }).pfx.val ≠ 9 := by
    rwa [consumeByte_pfx]
  obtain ⟨pfx, pb, -, heq⟩ := notePrefix_of_pfx_ne (c ^^^ (keystreamOf k t)[t.pos]) hpfx
  rw [cfbByte_eq, heq]
  exact ⟨consumeByte_qcdone c _, consumeByte_qcfail c _⟩

/-! ### The engine on a chunk -/

theorem cfbBytes_pfx (k : KeySchedule) (cs : List Byte) (t : CfbState) :
    (cfbBytes k cs t).1.pfx.val = min 10 (t.pfx.val + cs.length) := by
  induction cs generalizing t with
  | nil => simp only [cfbBytes_nil, List.length_nil]; omega
  | cons c cs ih => simp only [cfbBytes_cons, ih, cfbByte_pfx, List.length_cons]; omega

/-- A chunk that does not hold stream index 9 leaves the quick-check flags. -/
theorem cfbBytes_flags_of_not_crossing (k : KeySchedule) (cs : List Byte) (t : CfbState)
    (h : t.pfx.val = 10 ∨ t.pfx.val + cs.length < 10) :
    (cfbBytes k cs t).1.qcdone = t.qcdone ∧ (cfbBytes k cs t).1.qcfail = t.qcfail := by
  induction cs generalizing t with
  | nil => exact ⟨rfl, rfl⟩
  | cons c cs ih =>
    rw [List.length_cons] at h
    obtain ⟨hdone, hfail⟩ := cfbByte_flags_of_pfx_ne k c (show t.pfx.val ≠ 9 by omega)
    obtain ⟨ihdone, ihfail⟩ := ih (cfbByte k c t).1 (by rw [cfbByte_pfx]; omega)
    exact ⟨ihdone.trans hdone, ihfail.trans hfail⟩

/-- A chunk that holds stream index 9 makes the quick check. -/
theorem cfbBytes_qcdone_of_crossing (k : KeySchedule) (cs : List Byte) (t : CfbState)
    (hle : t.pfx.val ≤ 9) (hcross : 10 ≤ t.pfx.val + cs.length) :
    (cfbBytes k cs t).1.qcdone = true := by
  induction cs generalizing t with
  | nil => rw [List.length_nil] at hcross; omega
  | cons c cs ih =>
    rw [List.length_cons] at hcross
    rw [cfbBytes_cons]
    by_cases h9 : t.pfx.val = 9
    · have hover : (cfbByte k c t).1.pfx.val = 10 := by rw [cfbByte_pfx]; omega
      exact (cfbBytes_flags_of_not_crossing k cs _ (.inl hover)).1.trans
        (cfbByte_qcdone_of_pfx_eq k c h9)
    · exact ih _ (by rw [cfbByte_pfx]; omega) (by rw [cfbByte_pfx]; omega)

theorem chunkOperand_length {n : Nat} (s : State) (h : n ≤ 8) : (chunkOperand s n).length = n := by
  simp [chunkOperand, h]

/-! ### The invariant of a stream (10_state.md R44) -/

/-- The clauses of R44 that speak of the stream state alone: (c), (e), (f), (g), (i). -/
def StreamInv (t : CfbState) : Prop :=
  NoStreamInv t ∧ QuickCheckInv t ∧ PrefixInv t ∧ CanonicalInv t

theorem liveInv_iff (s : State) : LiveInv s ↔ KeyInv s ∧ StreamInv s.cfb ∧ s.err ∈ errCodes := by
  simp only [LiveInv, StreamInv, and_assoc]

theorem canonicalInv_of_zero {t : CfbState} (hcb : t.cb = zeroBlock) (hks : t.ks = zeroBlock) :
    CanonicalInv t := by
  refine ⟨fun j _ => ?_, fun _ => hks⟩
  rw [hcb]
  simp [zeroBlock]

/-- Only the quick check of a stream that has ended is kept (42_cfb_engine.md R175). -/
theorem streamInv_endStream {t : CfbState} (h : t.qcfail = true → t.qcdone = true) :
    StreamInv (endStream t) :=
  ⟨fun _ => ⟨rfl, rfl, rfl, rfl, rfl, rfl⟩, ⟨h, nofun⟩, ⟨nofun, nofun⟩, canonicalInv_of_zero rfl rfl⟩

theorem streamInv_zero : StreamInv CfbState.zero := streamInv_endStream (t := CfbState.zero) nofun

theorem streamInv_startStream (iv : Block) : StreamInv (startStream iv) :=
  ⟨nofun, ⟨nofun, fun _ => ⟨nofun, nofun⟩⟩, ⟨fun _ _ => rfl, fun _ => nofun⟩,
    canonicalInv_of_zero rfl rfl⟩

/-- The byte stored at `POS` moves the zeros of `CB` up by one; a completed block leaves `CB` and `KS`
zero (92_eei_decisions.md D6). -/
theorem canonicalInv_consumeByte (c : Byte) {t : CfbState} (h : ∀ j : Fin 8, t.pos ≤ j → t.cb[j] = 0) :
    CanonicalInv (consumeByte c t) := by
  by_cases h7 : t.pos.val = 7
  · rw [consumeByte_last c h7]
    exact canonicalInv_of_zero rfl rfl
  · rw [consumeByte_inside c (by omega)]
    refine ⟨fun j hj => ?_, fun hpos => ?_⟩
    · have hlt : t.pos.val < j.val := hj
      have hold : t.cb[j.val] = 0 := h j hlt.le
      simp [hlt.ne, hold]
    · exact absurd (congrArg Fin.val hpos) (Nat.succ_ne_zero _)

theorem canonicalInv_notePrefix (p : Byte) {t : CfbState} (h : CanonicalInv t) :
    CanonicalInv (notePrefix p t) := by
  by_cases h9 : t.pfx.val = 9
  · rw [notePrefix_tenth p h9]
    exact canonicalInv_of_zero rfl rfl
  · obtain ⟨pfx, pb, -, heq⟩ := notePrefix_of_pfx_ne p h9
    rw [heq]
    exact h

theorem canonicalInv_cfbByte (k : KeySchedule) (c : Byte) {t : CfbState} (h : CanonicalInv t) :
    CanonicalInv (cfbByte k c t).1 := by
  rw [cfbByte_eq]
  exact canonicalInv_notePrefix _ (canonicalInv_consumeByte c h.1)

theorem quickCheckInv_cfbByte (k : KeySchedule) (c : Byte) {t : CfbState} (hactive : t.cfba = true)
    (h : QuickCheckInv t) : QuickCheckInv (cfbByte k c t).1 := by
  obtain ⟨hfail, hdone⟩ := h
  have hpfx := cfbByte_pfx k c t
  by_cases h9 : t.pfx.val = 9
  · have hd := cfbByte_qcdone_of_pfx_eq k c h9
    exact ⟨fun _ => hd, fun _ => ⟨fun _ => by omega, fun _ => hd⟩⟩
  · obtain ⟨hd, hf⟩ := cfbByte_flags_of_pfx_ne k c h9
    refine ⟨by rwa [hd, hf], fun _ => ?_⟩
    rw [hd, hdone hactive]
    omega

theorem prefixInv_cfbByte (k : KeySchedule) (c : Byte) {t : CfbState} (hactive : t.cfba = true)
    (h : PrefixInv t) : PrefixInv (cfbByte k c t).1 := by
  obtain ⟨hle, -⟩ := h
  have hpfx := cfbByte_pfx k c t
  have hpos := cfbByte_pos k c t
  refine ⟨fun _ h8 => ?_, fun _ h9 => ?_⟩
  · have := hle hactive (by omega)
    rw [hpos, if_neg (by omega)]
    omega
  · have := hle hactive (by omega)
    rw [hpos, if_neg (by omega)]
    omega

theorem streamInv_cfbByte (k : KeySchedule) (c : Byte) {t : CfbState} (hactive : t.cfba = true)
    (h : StreamInv t) : StreamInv (cfbByte k c t).1 := by
  obtain ⟨-, hquick, hprefix, hcanon⟩ := h
  refine ⟨fun hidle => ?_, quickCheckInv_cfbByte k c hactive hquick,
    prefixInv_cfbByte k c hactive hprefix, canonicalInv_cfbByte k c hcanon⟩
  rw [cfbByte_cfba, hactive] at hidle
  cases hidle

theorem streamInv_cfbBytes (k : KeySchedule) (cs : List Byte) {t : CfbState} (hactive : t.cfba = true)
    (h : StreamInv t) : StreamInv (cfbBytes k cs t).1 := by
  induction cs generalizing t with
  | nil => exact h
  | cons c cs ih =>
    exact ih ((cfbByte_cfba k c t).trans hactive) (streamInv_cfbByte k c hactive h)

/-! ### The invariant of the machine -/

theorem err_code_mem (e : Err) : e.code ∈ errCodes := by cases e <;> decide
theorem zero_mem_errCodes : (0 : Word) ∈ errCodes := by decide

/-- A core whose elements are all zero, as after a reset or a WIPE that completes. -/
theorem liveInv_of_zero {s : State} (hsched : s.sched = KeySchedule.zero)
    (hcfb : s.cfb = CfbState.zero) (herr : s.err = 0) : LiveInv s := by
  rw [liveInv_iff, KeyInv, hsched, hcfb, herr]
  exact ⟨⟨nofun, fun _ => rfl⟩, streamInv_zero, zero_mem_errCodes⟩

/-- What changes only `ERR`, to one of the codes, and registers no clause speaks of. -/
theorem liveInv_of_frame {s t : State} (h : LiveInv s) (hsched : t.sched = s.sched)
    (hcfb : t.cfb = s.cfb) (herr : t.err ∈ errCodes) : LiveInv t := by
  obtain ⟨hkey, hstream, -⟩ := (liveInv_iff s).mp h
  rw [liveInv_iff, KeyInv, hsched, hcfb]
  exact ⟨hkey, hstream, herr⟩

theorem liveInv_of_inv {s : State} (hhalt : s.halt = false) (h : Inv s) : LiveInv s :=
  h.resolve_left (by simp [hhalt])

theorem inv_wipeWith (ok : Bool) (s : State) : Inv (wipeWith ok s) := by
  cases ok with
  | true => exact .inr (liveInv_of_zero rfl rfl rfl)
  | false => exact .inl rfl

theorem inv_effectOf {c : Instr} {s : State} (hchecks : firstFailing s c = none) (h : LiveInv s) :
    Inv (effectOf c s) := by
  obtain ⟨hkey, hstream, -⟩ := (liveInv_iff s).mp h
  cases c with
  | nop n | encblk n | decblk n => exact .inr (liveInv_of_frame h rfl rfl zero_mem_errCodes)
  | setkey n =>
    have hkv : KeyInv (effectOf (.setkey n) s) := by simp [effectOf, KeyInv]
    refine .inr ((liveInv_iff _).mpr ⟨hkv, ?_, zero_mem_errCodes⟩)
    simpa [effectOf] using hstream
  | cfbinit n =>
    obtain ⟨-, hkv⟩ := firstFailing_cfbinit_eq_none.mp hchecks
    obtain ⟨-, hzero⟩ := hkey
    exact .inr ((liveInv_iff _).mpr
      ⟨⟨fun _ => hkv, hzero⟩, streamInv_startStream _, zero_mem_errCodes⟩)
  | cfbdec n =>
    obtain ⟨-, hactive⟩ := firstFailing_cfbdec_eq_none.mp hchecks
    have hkv : KeyInv (effectOf (.cfbdec n) s) := by simpa [effectOf, KeyInv] using hkey
    refine .inr ((liveInv_iff _).mpr ⟨hkv, ?_, zero_mem_errCodes⟩)
    simpa [effectOf] using streamInv_cfbBytes s.sched (chunkOperand s n) hactive hstream
  | cfbend n =>
    obtain ⟨-, hzero⟩ := hkey
    obtain ⟨-, ⟨hfail, -⟩, -, -⟩ := hstream
    exact .inr ((liveInv_iff _).mpr
      ⟨⟨nofun, hzero⟩, streamInv_endStream hfail, zero_mem_errCodes⟩)
  | wipe n => exact inv_wipeWith _ s

theorem inv_accept {i : Input} {s t : State} (h : Inv s) (haccept : accept i s = .next t) : Inv t := by
  cases answer_of_accept haccept with
  | read | ignored | storedKey | storedDin => exact h
  | badCmd w hhalt =>
    exact .inr (liveInv_of_frame (liveInv_of_inv hhalt h) rfl rfl (err_code_mem .badCmd))
  | failed w c e hhalt =>
    have herr : (failureOf c s e).err ∈ errCodes := by rw [failureOf_err]; exact err_code_mem e
    exact .inr (liveInv_of_frame (liveInv_of_inv hhalt h) (failureOf_sched c s e)
      (failureOf_cfb c s e) herr)
  | done w c hhalt _ hchecks => exact inv_effectOf hchecks (liveInv_of_inv hhalt h)
  | reset => exact .inr (liveInv_of_zero rfl rfl rfl)

/-- Settles O38: a step waits or takes one input, and every answer keeps the invariant. -/
theorem everyStepKeepsTheInvariant : Obligations.EveryStepKeepsTheInvariant := by
  intro s t hinv hstep
  rcases step_cases hstep with ⟨-, rfl⟩ | ⟨i, rest, -, haccept⟩
  · exact hinv
  · have hinv' : Inv { s with inputs := rest } := hinv
    exact inv_accept hinv' haccept

/-- Settles O37: every element is zero at reset. -/
theorem invariantHoldsAtReset : Obligations.InvariantHoldsAtReset := liveInv_of_zero rfl rfl rfl

/-! ### What changes a register or a flag (10_state.md R28 to R35) -/

/-- Settles O33: the count of the whole chunk, whose length is `n`. -/
theorem cfbdecCountsThePrefix : Obligations.CfbdecCountsThePrefix := by
  intro s n hhalt hactive h1 h8
  have hchecks : firstFailing s (.cfbdec n) = none :=
    firstFailing_cfbdec_eq_none.mpr ⟨⟨h1, h8⟩, hactive⟩
  refine ⟨effectOf (.cfbdec n) s, ?_, ?_, ?_⟩
  · rw [exec_eq, hchecks]
    exact command_runs hhalt _ _
  · simp [effectOf, cfbBytes_pfx, chunkOperand_length s h8]
  · simpa [effectOf] using hactive

/-- Settles O44: of the commands whose checks pass, only ENCBLK, DECBLK, CFBDEC and WIPE write `DOUT`. -/
theorem onlyResultsWipeResetChangeDout : Obligations.OnlyResultsWipeResetChangeDout := by
  intro s t i haccept
  cases answer_of_accept haccept with
  | read | ignored | storedKey | storedDin | badCmd => exact .inl rfl
  | failed w c e => exact .inl (failureOf_dout c s e)
  | done w c _ hdec hchecks =>
    cases c with
    | nop n | cfbinit n | cfbend n => exact .inl rfl
    | setkey n => exact .inl (by simp [effectOf])
    | encblk n =>
      obtain ⟨rfl, -⟩ := firstFailing_encblk_eq_none.mp hchecks
      exact .inr (.inl ⟨w, _, rfl, hdec, rfl, .inl rfl⟩)
    | decblk n =>
      obtain ⟨rfl, -⟩ := firstFailing_decblk_eq_none.mp hchecks
      exact .inr (.inl ⟨w, _, rfl, hdec, rfl, .inr (.inl rfl)⟩)
    | cfbdec n =>
      obtain ⟨⟨h1, h8⟩, -⟩ := firstFailing_cfbdec_eq_none.mp hchecks
      exact .inr (.inl ⟨w, _, rfl, hdec, rfl, .inr (.inr ⟨n, h1, h8, rfl⟩)⟩)
    | wipe n =>
      obtain rfl : n = 0 := lenZero_eq_none.mp hchecks
      obtain rfl := eq_of_decode_wipe hdec
      rcases wipeWith_halt_or_zero (Config.zeroizeOk s.wipes) s with hhalt | ⟨-, -, -, hdout⟩
      · exact .inr (.inr (.inl ⟨rfl, .inl hhalt⟩))
      · exact .inr (.inr (.inl ⟨rfl, .inr hdout⟩))
  | reset => exact .inr (.inr (.inr ⟨rfl, rfl⟩))

/-- Settles O45: of the commands, only SETKEY and WIPE write `KEY`, and only WIPE writes `DIN`. -/
theorem stagingRegistersChangeOnlyAsStated : Obligations.StagingRegistersChangeOnlyAsStated := by
  intro s t i haccept
  cases answer_of_accept haccept with
  | read | ignored | badCmd => exact .inl ⟨rfl, rfl⟩
  | storedKey j v => exact .inr (.inl ⟨j, v, rfl, rfl, rfl⟩)
  | storedDin j v => exact .inr (.inr (.inl ⟨j, v, rfl, rfl, rfl⟩))
  | failed w c e _ hdec =>
    have hdin := failureOf_din c s e
    rcases failureOf_key c s e with hkey | ⟨n, rfl, hkey⟩
    · exact .inl ⟨hkey, hdin⟩
    · exact .inr (.inr (.inr (.inl ⟨w, n, rfl, hdec, hkey, hdin⟩)))
  | done w c _ hdec hchecks =>
    cases c with
    | nop n | encblk n | decblk n | cfbinit n | cfbend n => exact .inl ⟨rfl, rfl⟩
    | cfbdec n => exact .inl (by simp [effectOf])
    | setkey n => exact .inr (.inr (.inr (.inl ⟨w, n, rfl, hdec, by simp [effectOf]⟩)))
    | wipe n =>
      obtain rfl : n = 0 := lenZero_eq_none.mp hchecks
      obtain rfl := eq_of_decode_wipe hdec
      rcases wipeWith_halt_or_zero (Config.zeroizeOk s.wipes) s with hhalt | ⟨-, hkey, hdin, -⟩
      · exact .inr (.inr (.inr (.inr ⟨.inl rfl, .inl hhalt⟩)))
      · exact .inr (.inr (.inr (.inr ⟨.inl rfl, .inr ⟨hkey, hdin⟩⟩)))
  | reset => exact .inr (.inr (.inr (.inr ⟨.inr rfl, .inr ⟨rfl, rfl⟩⟩)))

/-- Settles O46: a CFBDEC writes the flags exactly if its chunk holds stream index 9. -/
theorem quickCheckFlagsChangeOnlyAsStated : Obligations.QuickCheckFlagsChangeOnlyAsStated := by
  intro s t i haccept
  cases answer_of_accept haccept with
  | read | ignored | storedKey | storedDin | badCmd => exact .inl ⟨rfl, rfl⟩
  | failed w c e => rw [failureOf_cfb]; exact .inl ⟨rfl, rfl⟩
  | done w c _ hdec hchecks =>
    cases c with
    | nop n | encblk n | decblk n | cfbend n => exact .inl ⟨rfl, rfl⟩
    | setkey n => exact .inl (by simp [effectOf])
    | cfbdec n =>
      obtain ⟨⟨-, h8⟩, -⟩ := firstFailing_cfbdec_eq_none.mp hchecks
      have hlen := chunkOperand_length s h8
      have hcfb : (effectOf (.cfbdec n) s).cfb = (cfbBytes s.sched (chunkOperand s n) s.cfb).1 := by
        simp [effectOf]
      rw [hcfb]
      by_cases hcross : s.cfb.pfx.val ≤ 9 ∧ 10 ≤ s.cfb.pfx.val + n
      · obtain ⟨hle, hge⟩ := hcross
        exact .inr (.inl ⟨w, n, rfl, hdec, hle, hge,
          cfbBytes_qcdone_of_crossing _ _ _ hle (by rwa [hlen])⟩)
      · exact .inl (cfbBytes_flags_of_not_crossing _ _ _ (by rw [hlen]; omega))
    | cfbinit n =>
      obtain ⟨rfl, -⟩ := firstFailing_cfbinit_eq_none.mp hchecks
      obtain rfl := eq_of_decode_cfbinit hdec
      exact .inr (.inr ⟨.inl rfl, .inr ⟨rfl, rfl⟩⟩)
    | wipe n =>
      obtain rfl : n = 0 := lenZero_eq_none.mp hchecks
      obtain rfl := eq_of_decode_wipe hdec
      refine .inr (.inr ⟨.inr (.inl rfl), ?_⟩)
      rcases wipeWith_halt_or_zero (Config.zeroizeOk s.wipes) s with hhalt | ⟨hcfb, -, -, -⟩
      · exact .inl hhalt
      · rw [effectOf, hcfb]
        exact .inr ⟨rfl, rfl⟩
  | reset => exact .inr (.inr ⟨.inr (.inr rfl), .inr ⟨rfl, rfl⟩⟩)

/-! ### The fail-stop (10_state.md R39, 60_exceptions.md R225) -/

/-- STATUS is read in the fail-stop too (20_memory.md R65). -/
theorem regRead_status (s : State) : regRead s 0x04 = statusWord s := by
  simp [regRead, regAt, readReg]

theorem statusWord_of_halt {s : State} (h : s.halt = true) : statusWord s = 0x00000020 := if_pos h

/-- In the fail-stop STATUS alone delivers anything. -/
theorem regRead_halted {s : State} (h : s.halt = true) (off : Nat) :
    regRead s off = if off = 0x04 then 0x00000020 else 0 := by
  split
  · next hoff => rw [hoff, regRead_status, statusWord_of_halt h]
  · next hoff =>
    unfold regRead
    cases hr : regAt off with
    | none => rfl
    | some r =>
      have hstatus : r ≠ .status := fun heq => hoff (by rw [regAt_offset hr, heq]; rfl)
      exact if_pos ⟨h, hstatus⟩

theorem regWrite_halted {s : State} (h : s.halt = true) (off : Nat) (v : Word) :
    regWrite s off v = .next s := if_pos h

theorem undefinedAccess_defined {off : Nat} (h4 : off % 4 = 0) (h40 : off < 0x40) :
    undefinedAccess .word off = none := undefinedAccess_eq_none.mpr ⟨rfl, h4, h40⟩

theorem accept_read_defined (s : State) {off : Nat} (h4 : off % 4 = 0) (h40 : off < 0x40) :
    accept (.read .word off) s = .next { s with returned := regRead s off :: s.returned } := by
  simp only [accept, undefinedAccess_defined h4 h40]

theorem accept_write_defined (s : State) {off : Nat} (v : Word) (h4 : off % 4 = 0)
    (h40 : off < 0x40) : accept (.write .word off v) s = regWrite s off v := by
  simp only [accept, undefinedAccess_defined h4 h40]

/-- A core that halts has taken a WIPE whose verification failed, and its `ERR` is as before. -/
theorem halt_entered {i : Input} {s t : State} (hs : s.halt = false) (haccept : accept i s = .next t)
    (ht : t.halt = true) :
    i = cmdInput 0x00000007 ∧ Config.zeroizeOk s.wipes = false ∧ t.err = s.err := by
  cases answer_of_accept haccept with
  | read | ignored | storedKey | storedDin | badCmd => exact absurd ht (by simp [hs])
  | failed w c e => exact absurd ht (by simp [hs])
  | done w c _ hdec hchecks =>
    obtain ⟨n, rfl, hok⟩ := effectOf_halt hs ht
    obtain rfl : n = 0 := lenZero_eq_none.mp hchecks
    obtain rfl := eq_of_decode_wipe hdec
    exact ⟨rfl, hok, wipeWith_err_of_halt hs ht⟩
  | reset => cases ht

/-- Only a reset leaves the fail-stop (70_reset_and_hazards.md R250). -/
theorem halt_left_iff {i : Input} {s t : State} (hs : s.halt = true) (haccept : accept i s = .next t) :
    t.halt = false ↔ i = .reset := by
  cases answer_of_accept haccept with
  | read | ignored => simp [hs]
  | storedKey _ _ hhalt | storedDin _ _ hhalt | badCmd _ hhalt | failed _ _ _ hhalt
  | done _ _ hhalt => simp [hs] at hhalt
  | reset => exact iff_of_true rfl rfl

/-- Settles O42: the entry and the exit of the fail-stop, and the accesses in it. -/
theorem haltIsAFailStop : Obligations.HaltIsAFailStop := by
  constructor
  · intro s t i hs haccept
    refine ⟨⟨fun ht => ?_, ?_⟩, ?_⟩
    · obtain ⟨hi, hok, -⟩ := halt_entered hs haccept ht
      exact ⟨hi, hok⟩
    · rintro ⟨rfl, hok⟩
      rw [accept_wipe hs] at haccept
      cases haccept
      rw [wipeWith_halt _ hs, hok]
      rfl
    · cases ht : t.halt with
      | false => exact .inl rfl
      | true =>
        obtain ⟨-, -, herr⟩ := halt_entered hs haccept ht
        exact .inr herr
  · intro s hs
    refine ⟨fun i => exec_halted i hs, fun off v h4 h40 => ?_, regRead_halted hs,
      fun off h4 h40 => ?_, fun i t => halt_left_iff hs⟩
    · rw [accept_write_defined s v h4 h40, regWrite_halted hs]
    · rw [accept_read_defined s h4 h40, regRead_halted hs]

/-! ### What the host reads (10_state.md R20, R37) -/

theorem regWrite_status (s : State) (v : Word) : regWrite s 0x04 v = .next s := by
  unfold regWrite
  split <;> rfl

/-- The layout of STATUS, for any contents of its fields (10_state.md R37). -/
theorem statusLayout (x : BitVec 4) (o : BitVec 3) (h e f d a k : Bool) {w : Word}
    (hw : w = (0 : BitVec 16) ++ x ++ (0 : BitVec 1) ++ o ++ (0 : BitVec 2) ++ BitVec.ofBool h
      ++ BitVec.ofBool e ++ BitVec.ofBool f ++ BitVec.ofBool d ++ BitVec.ofBool a ++ BitVec.ofBool k) :
    (w.getLsbD 0 = k ∧ w.getLsbD 1 = a ∧ w.getLsbD 2 = d ∧ w.getLsbD 3 = f ∧ w.getLsbD 4 = e ∧
      w.getLsbD 5 = h) ∧
    w.extractLsb' 6 2 = 0 ∧ w.extractLsb' 8 3 = o ∧ w.extractLsb' 11 1 = 0 ∧
      w.extractLsb' 12 4 = x ∧ w.extractLsb' 16 16 = 0 := by
  subst hw
  refine ⟨?_, ?_, ?_, ?_, ?_, ?_⟩
  · simp only [BitVec.getLsbD_append]
    simp
  all_goals
    apply BitVec.eq_of_getLsbD_eq
    intro j hj
    simp only [BitVec.getLsbD_extractLsb', BitVec.getLsbD_append]
    grind

/-- Settles O11: the layout of the status word, and the accesses at its offset. -/
theorem statusShowsItsFields : Obligations.StatusShowsItsFields := by
  intro s
  refine ⟨regRead_status s, statusWord_of_halt, fun hs => ?_, fun v => ?_, ?_⟩
  · have hword : statusWord s = statusFields s := by simp [statusWord, hs]
    obtain ⟨⟨hkv, hcfba, hdone, hfail, herr, hhalt⟩, h6, hpos, h11, hpfx, h16⟩ :=
      statusLayout _ _ _ _ _ _ _ _ hword
    refine ⟨hkv, hcfba, hdone, hfail, ?_, hhalt.trans hs, h6, ?_, h11, ?_, h16⟩
    · rw [herr]
      simp [errf]
    · rw [hpos, BitVec.toNat_ofNat]
      omega
    · rw [hpfx, BitVec.toNat_ofNat]
      omega
  · rw [accept_write_defined s v (by decide) (by decide), regWrite_status]
  · exact ⟨_, accept_read_defined s (by decide) (by decide), rfl, rfl, rfl, rfl, rfl, rfl, rfl⟩

/-- The elements STATUS shows are visible ones. -/
theorem statusWord_of_sameVisible {s t : State} (h : SameVisible s t) :
    statusWord s = statusWord t := by
  obtain ⟨hkv, hpos, hpfx, hcfba, hdone, hfail, -, -, herr, hhalt⟩ := h
  simp only [statusWord, statusFields, errf, hkv, hpos, hpfx, hcfba, hdone, hfail, herr, hhalt]

/-- A register delivers a constant, STATUS, or a visible element. -/
theorem readReg_of_sameVisible {s t : State} (h : SameVisible s t) (r : Reg) :
    readReg s r = readReg t r := by
  have hstatus := statusWord_of_sameVisible h
  obtain ⟨-, -, -, -, -, -, hdin, hdout, herr, -⟩ := h
  cases r with
  | cmd | key j => rfl
  | status => exact hstatus
  | err => exact herr
  | din j => simp only [readReg, hdin]
  | dout j => simp only [readReg, hdout]

/-- Settles O14: a read depends on the register read and on `HALT`, and both are visible. -/
theorem hiddenStateIsUnreadable : Obligations.HiddenStateIsUnreadable := by
  intro s t off h
  have hreg := readReg_of_sameVisible h
  obtain ⟨-, -, -, -, -, -, -, -, -, hhalt⟩ := h
  unfold regRead
  cases regAt off with
  | none => rfl
  | some r => simp only [hhalt, hreg r]

/-- Settles O12: every array of the reset state is constantly zero. -/
theorem resetStateIsZero : Obligations.ResetStateIsZero := by
  unfold Obligations.ResetStateIsZero
  simp [State.reset, KeySchedule.zero, CfbState.zero, statusWord, statusFields, errf]

end Sys2Proof.Machine

namespace Sys2Proof.Machine

/-! ### Which accesses are answered (20_memory.md R64) -/

/-- Any of the three defects of R64 makes an access undefined. -/
theorem undefinedAccess_of_defect {width : Width} {off : Nat}
    (h : width ≠ .word ∨ off % 4 ≠ 0 ∨ 0x40 ≤ off) : ∃ r, undefinedAccess width off = some r := by
  apply Option.ne_none_iff_exists'.mp
  rw [Ne, undefinedAccess_eq_none]
  rintro ⟨hword, h4, h40⟩
  rcases h with h | h | h
  · exact h hword
  · exact h h4
  · omega

theorem accept_read_undefined {width : Width} {off : Nat} {r : Refusal}
    (h : undefinedAccess width off = some r) (s : State) :
    accept (.read width off) s = .refused r := by
  simp only [accept, h]

theorem accept_write_undefined {width : Width} {off : Nat} {r : Refusal}
    (h : undefinedAccess width off = some r) (s : State) (v : Word) :
    accept (.write width off v) s = .refused r := by
  simp only [accept, h]

/-- Every command is answered (60_exceptions.md R216). -/
theorem exec_next (i : Instr) (s : State) : ∃ t, exec i s = .next t := by
  rw [exec_eq]
  exact command_next _ _ _ _

theorem cmdWrite_next (s : State) (w : Word) : ∃ t, cmdWrite s w = .next t := by
  unfold cmdWrite
  split
  · exact command_next _ _ _ _
  · exact exec_next _ s

theorem writeReg_next (s : State) (v : Word) (r : Reg) : ∃ t, writeReg s v r = .next t := by
  cases r with
  | cmd => exact cmdWrite_next s v
  | status | err | key | din | dout => exact ⟨_, rfl⟩

theorem regWrite_next (s : State) (off : Nat) (v : Word) : ∃ t, regWrite s off v = .next t := by
  unfold regWrite
  split
  · exact ⟨s, rfl⟩
  · split
    · exact ⟨s, rfl⟩
    · exact writeReg_next s v _

/-- Settles O8: a defect is refused by name, and every write that reaches a register is answered. -/
theorem undefinedAccessesAreRefused : Obligations.UndefinedAccessesAreRefused := by
  refine fun s width off v => ⟨fun hdefect => ?_, ?_⟩
  · obtain ⟨r, hr⟩ := undefinedAccess_of_defect hdefect
    exact ⟨⟨r, accept_read_undefined hr s⟩, ⟨r, accept_write_undefined hr s v⟩⟩
  · rintro rfl h4 h40
    refine ⟨⟨_, accept_read_defined s h4 h40⟩, ?_⟩
    rw [accept_write_defined s v h4 h40]
    exact regWrite_next s off v

/-! ### What a write does (20_memory.md R63, R65) -/

/-- The register map holds every register at its offset; the converse is `regAt_offset`. -/
theorem regAt_of_offset (r : Reg) : regAt r.offset = some r := by
  cases r with
  | cmd | status | err => rfl
  | key j => fin_cases j <;> rfl
  | din j | dout j => fin_cases j <;> rfl

theorem offset_defined (r : Reg) : r.offset % 4 = 0 ∧ r.offset < 0x40 := by
  cases r with
  | cmd | status | err => decide
  | key j | din j | dout j => simp only [Reg.offset]; omega

/-- Outside the fail-stop a write at a register's offset is a write of that register. -/
theorem accept_write_reg {s : State} (hhalt : s.halt = false) (v : Word) (r : Reg) :
    accept (.write .word r.offset v) s = writeReg s v r := by
  obtain ⟨h4, h40⟩ := offset_defined r
  rw [accept_write_defined s v h4 h40]
  simp [regWrite, hhalt, regAt_of_offset]

/-- A reserved offset ignores a write, in the fail-stop too. -/
theorem accept_write_reserved {off : Nat} (h4 : off % 4 = 0) (h40 : off < 0x40)
    (hreserved : regAt off = none) (s : State) (v : Word) :
    accept (.write .word off v) s = .next s := by
  rw [accept_write_defined s v h4 h40]
  simp [regWrite, hreserved]

/-- Settles O10: four of the ignoring offsets hold a read-only register, the other five none. -/
theorem writesStoreOrAreIgnored : Obligations.WritesStoreOrAreIgnored := by
  intro s v hhalt
  have hreg := accept_write_reg hhalt v
  have hreserved (off : Nat) (h4 : off % 4 = 0) (h40 : off < 0x40) (hnone : regAt off = none) :
      accept (.write .word off v) s = .next s := accept_write_reserved h4 h40 hnone s v
  refine ⟨fun j => hreg (.key j), fun j => hreg (.din j), ?_⟩
  simp only [List.forall_mem_cons]
  exact ⟨hreg .status, hreg .err, hreserved 0x0C rfl (by decide) rfl, hreg (.dout 0),
    hreg (.dout 1), hreserved 0x30 rfl (by decide) rfl, hreserved 0x34 rfl (by decide) rfl,
    hreserved 0x38 rfl (by decide) rfl, hreserved 0x3C rfl (by decide) rfl, nofun⟩

end Sys2Proof.Machine

namespace Sys2Proof.Machine

/-! ### The decoder and the encoder (30_encoding.md R101, R103) -/

/-- The operation of a command selects it (R103); the converse is `decodeOp_eq_ok`. -/
theorem decodeOp_opcode (i : Instr) : decodeOp i.opcode.toNat i.len = .ok i := by
  cases i <;> rfl

theorem decodeOp_reserved {op : Nat} (h : 7 < op) (len : Nat) :
    decodeOp op len = .error .reservedOpcode := by
  obtain ⟨n, rfl⟩ := Nat.exists_eq_add_of_le' h
  rfl

theorem decode_of_rsvField_eq_zero {w : Word} (h : rsvField w = 0) :
    decode w = decodeOp (opField w).toNat (lenField w).toNat := by
  simp [decode, h]

/-- What decoding says of the three fields of a word (R101). -/
theorem decode_eq_ok_iff {w : Word} {i : Instr} :
    decode w = .ok i ↔ rsvField w = 0 ∧ (lenField w).toNat = i.len ∧ opField w = i.opcode := by
  constructor
  · intro h
    by_cases hrsv : rsvField w = 0
    · rw [decode_of_rsvField_eq_zero hrsv] at h
      obtain ⟨hop, hlen⟩ := decodeOp_eq_ok h
      exact ⟨hrsv, hlen.symm, BitVec.eq_of_toNat_eq hop.symm⟩
    · rw [decode, if_pos hrsv] at h
      cases h
  · rintro ⟨hrsv, hlen, hop⟩
    rw [decode_of_rsvField_eq_zero hrsv, hlen, hop, decodeOp_opcode]

/-- `LEN` has eight bits (R101). -/
theorem wellFormed_of_decode {w : Word} {i : Instr} (h : decode w = .ok i) :
    i.wellFormed = true := by
  obtain ⟨-, hlen, -⟩ := decode_eq_ok_iff.mp h
  rw [Instr.wellFormed, ← hlen]
  exact decide_eq_true (lenField w).isLt

/-- The illegal words (30_encoding.md R104 (a), (b)). -/
theorem decode_illegal {w : Word} (h : rsvField w ≠ 0 ∨ 7 < (opField w).toNat) :
    ∃ u, decode w = .error u := by
  by_cases hrsv : rsvField w = 0
  · have hop : 7 < (opField w).toNat := h.resolve_left (not_not_intro hrsv)
    exact ⟨_, (decode_of_rsvField_eq_zero hrsv).trans (decodeOp_reserved hop _)⟩
  · exact ⟨.reservedBits, if_pos hrsv⟩

/-- Every word that is not illegal is a command (30_encoding.md R103, R104). -/
theorem decode_legal {w : Word} (h : ¬ (rsvField w ≠ 0 ∨ 7 < (opField w).toNat)) :
    ∃ i, decode w = .ok i := by
  push Not at h
  obtain ⟨hrsv, hop⟩ := h
  rw [decode_of_rsvField_eq_zero hrsv]
  generalize (opField w).toNat = op at hop
  interval_cases op <;> exact ⟨_, rfl⟩

/-- Settles O2: the fields of the encoded word are those of the command. -/
theorem decodeAfterEncodeIsTheCommand : Obligations.DecodeAfterEncodeIsTheCommand :=
  fun i h => decode_eq_ok_iff.mpr (Laws.EncodeFields.ofLen i h)

/-- Settles O3: a word is made of its fields, and `LEN` is one of them. -/
theorem encodeAfterDecodeIsTheWord : Obligations.EncodeAfterDecodeIsTheWord :=
  fun _ _ h => ⟨encode_of_decode h, wellFormed_of_decode h⟩

/-! ### Mask and match (30_encoding.md R103) -/

/-- The mask of every row of the table keeps `RSV` and `OP` and clears `LEN`. -/
theorem and_mask (w : Word) : w &&& 0xFFFF00FF = rsvField w ++ (0 : Byte) ++ opField w := by
  have hmask : (0xFFFF00FF : Word) = BitVec.allOnes 16 ++ (0 : Byte) ++ BitVec.allOnes 8 := rfl
  calc w &&& 0xFFFF00FF
      = (rsvField w ++ lenField w ++ opField w) &&&
          (BitVec.allOnes 16 ++ (0 : Byte) ++ BitVec.allOnes 8) := by rw [fields_append, ← hmask]
    _ = (rsvField w &&& BitVec.allOnes 16) ++ (lenField w &&& 0) ++
          (opField w &&& BitVec.allOnes 8) := by rw [BitVec.and_append, BitVec.and_append]
    _ = rsvField w ++ (0 : Byte) ++ opField w := by
      rw [BitVec.and_allOnes, BitVec.and_allOnes]
      simp

/-- An operation's match value is its `OP`, zero-extended: `RSV` and `LEN` are zero. -/
theorem and_mask_eq_iff {w : Word} {o : Byte} :
    w &&& 0xFFFF00FF = o.setWidth 32 ↔ rsvField w = 0 ∧ opField w = o := by
  have hmatch : o.setWidth 32 = (0 : BitVec 16) ++ (0 : Byte) ++ o :=
    BitVec.setWidth_eq_append (by decide)
  rw [and_mask, hmatch]
  constructor
  · intro h
    have hop : opField w = o := by
      simpa only [BitVec.extractLsb'_append_eq_right] using congrArg (BitVec.extractLsb' 0 8) h
    subst hop
    rw [BitVec.append_left_inj, BitVec.append_left_inj] at h
    exact ⟨h, rfl⟩
  · rintro ⟨hrsv, hop⟩
    rw [hrsv, hop]

theorem lenField_toNat (w : Word) : (lenField w).toNat = w.toNat / 256 % 256 := by
  simp [lenField, BitVec.extractLsb'_toNat, Nat.shiftRight_eq_div_pow]

/-- A row of the table, by the command it selects. -/
theorem decode_eq_ok_iff_mask_match (w : Word) (i : Instr) :
    decode w = .ok i ↔
      w &&& 0xFFFF00FF = i.opcode.setWidth 32 ∧ i.len = w.toNat / 256 % 256 := by
  rw [decode_eq_ok_iff, ← and_assoc, and_right_comm, and_mask_eq_iff, ← lenField_toNat,
    eq_comm (a := i.len)]

/-- Settles O4: the eight rows are the eight operations. -/
theorem maskAndMatchSelectTheOperation : Obligations.MaskAndMatchSelectTheOperation := by
  intro w len
  have row := decode_eq_ok_iff_mask_match w
  exact ⟨row (.nop len), row (.setkey len), row (.encblk len), row (.decblk len),
    row (.cfbinit len), row (.cfbdec len), row (.cfbend len), row (.wipe len)⟩

/-! ### The first failing check (30_encoding.md R104, R105) -/

/-- Step 1 of R105: a word that is no command fails with `E_BADCMD`. -/
theorem accept_cmdInput_illegal {s : State} {w : Word} (hhalt : s.halt = false)
    (h : rsvField w ≠ 0 ∨ 7 < (opField w).toNat) :
    accept (cmdInput w) s = .next { s with err := 0xFFFFFFFF } := by
  obtain ⟨u, hu⟩ := decode_illegal h
  calc accept (cmdInput w) s = cmdWrite s w := by simp [accept_cmdInput, hhalt]
    _ = command s (some .badCmd) fail id := by simp only [cmdWrite, hu]
    _ = .next (fail s .badCmd) := command_fails hhalt _ _ _

theorem exec_fails {s : State} {i : Instr} {e : Err} (hhalt : s.halt = false)
    (h : firstFailing s i = some e) : exec i s = .next (failureOf i s e) := by
  rw [exec_eq, h, command_fails hhalt]

/-- A `LEN` that an operation does not allow fails the length check, whatever the state
(R105 step 2). -/
theorem firstFailing_of_not_lenAllowed {i : Instr} (h : i.lenAllowed = false) (s : State) :
    ∃ e, (e = .keyLen ∨ e = .zeroLen ∨ e = .badLen) ∧ firstFailing s i = some e := by
  cases i with
  | setkey n =>
    have hn : n ≠ 16 := by simpa [Instr.lenAllowed] using h
    exact ⟨.keyLen, .inl rfl, by simp [firstFailing, lenKey, hn]⟩
  | cfbdec n =>
    have hn : ¬ (1 ≤ n ∧ n ≤ 8) := by simpa [Instr.lenAllowed] using h
    by_cases h0 : n = 0
    · exact ⟨.zeroLen, .inr (.inl rfl), by simp [firstFailing, h0]⟩
    · have h8 : ¬ n ≤ 8 := by omega
      exact ⟨.badLen, .inr (.inr rfl), by simp [firstFailing, lenChunk, h0, h8]⟩
  | nop n | encblk n | decblk n | cfbinit n | cfbend n | wipe n =>
    have hn : n ≠ 0 := by simpa [Instr.lenAllowed] using h
    exact ⟨.badLen, .inr (.inr rfl), by simp [firstFailing, lenZero, hn]⟩

/-- The frame of a failure: only `ERR` and `KEY` (60_exceptions.md R218). -/
theorem failureOf_eq (i : Instr) (s : State) (e : Err) :
    failureOf i s e = { s with err := e.code, key := (failureOf i s e).key } := by
  cases i <;> rfl

/-- Settles O5: an illegal word fails in step 1 of R105, an illegal length in step 2. -/
theorem illegalWordsFailAndChangeNothingElse :
    Obligations.IllegalWordsFailAndChangeNothingElse := by
  refine fun s w hhalt => ⟨accept_cmdInput_illegal hhalt, fun i hdecode hlen => ?_⟩
  obtain ⟨e, hcode, hfails⟩ := firstFailing_of_not_lenAllowed hlen s
  refine ⟨e.code, ?_, (failureOf i s e).key, ?_, ?_⟩
  · rcases hcode with rfl | rfl | rfl <;> simp [Err.code]
  · rw [accept_cmdInput_of_decode_ok hdecode, exec_fails hhalt hfails, ← failureOf_eq]
  · cases i <;> rfl

/-- One check of R105: failing, it decides; passed, it leaves the outcome to the checks after it. -/
theorem exec_eq_ite {s : State} {i : Instr} {c : Prop} [Decidable c] {e : Err}
    {rest : Host.Outcome State Fault Refusal} (hhalt : s.halt = false)
    (hfails : c → firstFailing s i = some e) (hrest : ¬ c → exec i s = rest) :
    exec i s = if c then .next (failureOf i s e) else rest := by
  split
  · next hc => exact exec_fails hhalt (hfails hc)
  · next hc => exact hrest hc

/-- The operations that allow only `LEN = 0`: the length check, then whatever `rest` says of the
command with `LEN = 0`. -/
theorem exec_eq_ite_len_ne_zero {s : State} {op : Nat → Instr} {n : Nat} {check : Option Err}
    {rest : Host.Outcome State Fault Refusal} (hhalt : s.halt = false)
    (hchecks : firstFailing s (op n) = (lenZero n).or check) (hrest : exec (op 0) s = rest) :
    exec (op n) s = if n ≠ 0 then .next (failureOf (op n) s .badLen) else rest := by
  refine exec_eq_ite hhalt (fun hn => ?_) fun hn => ?_
  · rw [hchecks, lenZero, if_neg hn]
    rfl
  · rw [not_not.mp hn, hrest]

/-- The key check of R105 step 3, of a command that has come to it. -/
theorem exec_eq_ite_needKey {s : State} {i : Instr} (hhalt : s.halt = false)
    (hchecks : firstFailing s i = needKey s) :
    exec i s = if s.sched.kv = false then .next (failureOf i s .noKey) else exec i s :=
  exec_eq_ite hhalt (fun hkv => hchecks.trans (needKey_eq_some.mpr ⟨hkv, rfl⟩)) fun _ => rfl

/-- The stream check of R105 step 3, of a command that has come to it. -/
theorem exec_eq_ite_needStream {s : State} {i : Instr} (hhalt : s.halt = false)
    (hchecks : firstFailing s i = needStream s) :
    exec i s = if s.cfb.cfba = false then .next (failureOf i s .noStream) else exec i s :=
  exec_eq_ite hhalt (fun hidle => hchecks.trans (needStream_eq_some.mpr ⟨hidle, rfl⟩)) fun _ => rfl

theorem exec_setkey_eq_ite {s : State} (hhalt : s.halt = false) (n : Nat) :
    exec (.setkey n) s =
      if n ≠ 16 then .next (failZeroKey s .keyLen)
      else if s.cfb.cfba then .next (failZeroKey s .keyBusy)
      else exec (.setkey 16) s := by
  refine exec_eq_ite hhalt (fun hn => ?_) fun hn => ?_
  · simp [firstFailing, lenKey, hn]
  · obtain rfl := not_not.mp hn
    exact exec_eq_ite hhalt (fun hbusy => needIdle_eq_some.mpr ⟨hbusy, rfl⟩) fun _ => rfl

theorem exec_cfbdec_eq_ite {s : State} (hhalt : s.halt = false) (n : Nat) :
    exec (.cfbdec n) s =
      if n = 0 then .next (fail s .zeroLen)
      else if 8 < n then .next (fail s .badLen)
      else if s.cfb.cfba = false then .next (fail s .noStream)
      else exec (.cfbdec n) s := by
  refine exec_eq_ite hhalt (fun h0 => ?_) fun h0 =>
    exec_eq_ite hhalt (fun h8 => ?_) fun h8 => exec_eq_ite_needStream hhalt ?_
  · simp [firstFailing, h0]
  · have hlen : lenChunk n = some .badLen := lenChunk_eq_some.mpr (.inr ⟨h8, rfl⟩)
    simp [firstFailing, hlen]
  · have hlen : lenChunk n = none := lenChunk_eq_none.mpr (by omega)
    simp [firstFailing, hlen]

/-- Settles O39: the checks of R105 in their order, for each command a legal word decodes to. -/
theorem firstFailingCheckDecides : Obligations.FirstFailingCheckDecides := by
  intro s w
  dsimp only
  by_cases hhalt : s.halt = true
  · simp [accept_cmdInput, hhalt]
  · rw [if_neg hhalt]
    have hhalt : s.halt = false := Bool.eq_false_iff.mpr hhalt
    split
    · next hillegal => exact accept_cmdInput_illegal hhalt hillegal
    · next hlegal =>
      obtain ⟨i, hdecode⟩ := decode_legal hlegal
      obtain ⟨-, hlen, hop⟩ := decode_eq_ok_iff.mp hdecode
      rw [lenField] at hlen
      rw [opField] at hop
      rw [accept_cmdInput_of_decode_ok hdecode, hlen, hop]
      cases i with
      | nop n => exact exec_eq_ite_len_ne_zero (op := .nop) hhalt (Option.or_none).symm rfl
      | setkey n => exact exec_setkey_eq_ite hhalt n
      | encblk n =>
        exact exec_eq_ite_len_ne_zero (op := .encblk) hhalt rfl (exec_eq_ite_needKey hhalt rfl)
      | decblk n =>
        exact exec_eq_ite_len_ne_zero (op := .decblk) hhalt rfl (exec_eq_ite_needKey hhalt rfl)
      | cfbinit n =>
        exact exec_eq_ite_len_ne_zero (op := .cfbinit) hhalt rfl (exec_eq_ite_needKey hhalt rfl)
      | cfbdec n => exact exec_cfbdec_eq_ite hhalt n
      | cfbend n =>
        exact exec_eq_ite_len_ne_zero (op := .cfbend) hhalt rfl (exec_eq_ite_needStream hhalt rfl)
      | wipe n => exact exec_eq_ite_len_ne_zero (op := .wipe) hhalt (Option.or_none).symm rfl

/-- Settles O1: each word is read by its fields. -/
theorem canonicalWordsDecode : Obligations.CanonicalWordsDecode := by
  unfold Obligations.CanonicalWordsDecode
  decide

end Sys2Proof.Machine

namespace Sys2Proof.Machine

/-! ### The commands that need a key and no length (30_encoding.md R105) -/

theorem exec_runs {s : State} {i : Instr} (hhalt : s.halt = false)
    (h : firstFailing s i = none) : exec i s = .next (effectOf i s) := by
  rw [exec_eq, h, command_runs hhalt]

/-- The three outcomes outside the fail-stop of an operation that allows only `LEN = 0` and needs a
valid key: its effect, `E_NOKEY`, and `E_BADLEN`, which comes before the key. -/
theorem exec_of_lenZero_needKey {s : State} {op : Nat → Instr} (hhalt : s.halt = false)
    (hchecks : ∀ n, firstFailing s (op n) = (lenZero n).or (needKey s)) :
    (s.sched.kv = true → exec (op 0) s = .next (effectOf (op 0) s)) ∧
      (s.sched.kv = false → exec (op 0) s = .next (failureOf (op 0) s .noKey)) ∧
      ∀ n, n ≠ 0 → exec (op n) s = .next (failureOf (op n) s .badLen) := by
  refine ⟨fun hkey => exec_runs hhalt ?_, fun hkey => exec_fails hhalt ?_,
    fun n hn => exec_fails hhalt ?_⟩
  · simp [hchecks, hkey]
  · simp [hchecks, hkey]
  · simp [hchecks, lenZero, hn]

/-- Settles O17: the outcomes of the checks, with the effect of ENCBLK. -/
theorem encblkWritesTheEncryptedBlock : Obligations.EncblkWritesTheEncryptedBlock :=
  ⟨by decide, fun _ hhalt => exec_of_lenZero_needKey (op := .encblk) hhalt fun _ => rfl⟩

/-- Settles O18: the outcomes of the checks, with the effect of DECBLK. -/
theorem decblkWritesTheDecryptedBlock : Obligations.DecblkWritesTheDecryptedBlock :=
  ⟨by decide, fun _ hhalt => exec_of_lenZero_needKey (op := .decblk) hhalt fun _ => rfl⟩

theorem exec_encblk_of_key {s : State} (hhalt : s.halt = false) (hkey : s.sched.kv = true) :
    exec (.encblk 0) s =
      .next { s with dout := bytesPair (encrypt s.sched (pairBytes s.din)), err := 0 } :=
  (encblkWritesTheEncryptedBlock.2 s hhalt).1 hkey

theorem exec_decblk_of_key {s : State} (hhalt : s.halt = false) (hkey : s.sched.kv = true) :
    exec (.decblk 0) s =
      .next { s with dout := bytesPair (decrypt s.sched (pairBytes s.din)), err := 0 } :=
  (decblkWritesTheDecryptedBlock.2 s hhalt).1 hkey

/-! ### The round functions (41_block_cipher.md R150 to R153) -/

/-- The rotation of R9, by an amount that five bits can hold, is the library's. -/
theorem rol32_eq_rotateLeft (v : Word) (n : BitVec 5) :
    rol32 v n.toNat = v.rotateLeft n.toNat := by
  have hn : n.toNat % 32 = n.toNat := Nat.mod_eq_of_lt n.isLt
  rw [BitVec.rotateLeft_def, hn, rol32]
  split
  · next h0 => simp [h0, BitVec.ushiftRight_eq_zero]
  · rfl

theorem roundF_of_mod_eq_zero {i : Fin 16} (h : i.val % 3 = 0) (k : KeySchedule) (d : Word) :
    roundF k i d = roundType1 k.km[i] k.kr[i] d := by simp only [roundF, h]

theorem roundF_of_mod_eq_one {i : Fin 16} (h : i.val % 3 = 1) (k : KeySchedule) (d : Word) :
    roundF k i d = roundType2 k.km[i] k.kr[i] d := by simp only [roundF, h]

theorem roundF_of_mod_eq_two {i : Fin 16} (h : i.val % 3 = 2) (k : KeySchedule) (d : Word) :
    roundF k i d = roundType3 k.km[i] k.kr[i] d := by simp only [roundF, h]

/-- Settles O23: the round number modulo 3 chooses the variant, and `byteOf` is a slice of the word by
definition. -/
theorem roundFunctionsCombineFourLookups : Obligations.RoundFunctionsCombineFourLookups := by
  intro k i d
  refine ⟨fun h => ?_, fun h => ?_, fun h => ?_⟩
  · rw [roundF_of_mod_eq_zero h, roundType1, rol32_eq_rotateLeft]
    rfl
  · rw [roundF_of_mod_eq_one h, roundType2, rol32_eq_rotateLeft]
    rfl
  · rw [roundF_of_mod_eq_two h, roundType3, rol32_eq_rotateLeft]
    rfl

/-! ### The rounds of a block function (41_block_cipher.md R154, R155) -/

@[simp] theorem halves_pairBytes (r : Vector Word 2) : halves (pairBytes r) = (r[0], r[1]) := by
  simp [halves, pairBytes_eq]

@[simp] theorem bytesPair_exchanged (h : Word × Word) : bytesPair (exchanged h) = #v[h.2, h.1] :=
  bytesPair_pairBytes _

/-- The halves after the first `n` rounds of an order: `(L_n, R_n)`. -/
def halvesAfter (k : KeySchedule) (order : List (Fin 16)) (h : Word × Word) (n : Nat) :
    Word × Word :=
  (order.take n).foldl (feistelRound k) h

theorem halvesAfter_zero (k : KeySchedule) (order : List (Fin 16)) (h : Word × Word) :
    halvesAfter k order h 0 = h := rfl

theorem halvesAfter_succ (k : KeySchedule) {order : List (Fin 16)} (h : Word × Word) {n : Nat}
    (hn : n < order.length) :
    halvesAfter k order h (n + 1) = feistelRound k (halvesAfter k order h n) order[n] := by
  rw [halvesAfter, List.take_succ_eq_append_getElem hn, List.foldl_concat, halvesAfter]

/-- A block function puts out the halves after all its rounds. -/
theorem blockFunction_eq (k : KeySchedule) (order : List (Fin 16)) (b : Block) :
    blockFunction k order b = exchanged (halvesAfter k order (halves b) order.length) := by
  rw [blockFunction, halvesAfter, List.take_length]

/-- A block function of sixteen rounds, as the recurrence of its halves: it starts from a register pair
and leaves in one the last halves, exchanged. -/
theorem blockFunction_recurrence (k : KeySchedule) {order : List (Fin 16)}
    (hlen : order.length = 16) (d : Vector Word 2) :
    ∃ l r : Nat → Word, l 0 = d[0] ∧ r 0 = d[1] ∧
      (∀ i : Fin 16, l (i.val + 1) = r i.val ∧
        r (i.val + 1) = l i.val ^^^ roundF k order[i] (r i.val)) ∧
      bytesPair (blockFunction k order (pairBytes d)) = #v[r 16, l 16] := by
  refine ⟨fun n => (halvesAfter k order (d[0], d[1]) n).1,
    fun n => (halvesAfter k order (d[0], d[1]) n).2, rfl, rfl, fun i => ?_, ?_⟩
  · have hi : i.val < order.length := by omega
    simp [halvesAfter_succ k _ hi]
  · simp [blockFunction_eq, hlen]

theorem roundNumbers_getElem (i : Fin 16) : roundNumbers[i] = i := by
  revert i; decide

theorem roundNumbers_reverse_getElem (i : Fin 16) : roundNumbers.reverse[i] = 15 - i := by
  revert i; decide

/-- Settles O24: the recurrence of the order 0 to 15. -/
theorem encblkRunsSixteenRounds : Obligations.EncblkRunsSixteenRounds := by
  intro s hhalt hkey
  obtain ⟨l, r, hl, hr, hround, hout⟩ :=
    blockFunction_recurrence s.sched (order := roundNumbers) rfl s.din
  refine ⟨l, r, hl, hr, fun i => ?_, ?_⟩
  · simpa only [roundNumbers_getElem] using hround i
  · rw [exec_encblk_of_key hhalt hkey, encrypt, hout]

/-- Settles O25: the recurrence of the order 15 to 0. -/
theorem decblkRunsTheRoundsInReverse : Obligations.DecblkRunsTheRoundsInReverse := by
  intro s hhalt hkey
  obtain ⟨l, r, hl, hr, hround, hout⟩ :=
    blockFunction_recurrence s.sched (order := roundNumbers.reverse) rfl s.din
  refine ⟨l, r, hl, hr, fun i => ?_, ?_⟩
  · simpa only [roundNumbers_reverse_getElem] using hround i
  · rw [exec_decblk_of_key hhalt hkey, decrypt, hout]

/-! ### The two block functions are inverse (41_block_cipher.md R159) -/

/-- A round undoes itself between two exchanges of the halves. -/
theorem feistelRound_swap_feistelRound (k : KeySchedule) (h : Word × Word) (i : Fin 16) :
    feistelRound k (feistelRound k h i).swap i = h.swap := by
  simp [Prod.swap]

/-- The rounds in reverse undo the rounds, between two exchanges of the halves. -/
theorem foldl_reverse_swap_foldl (k : KeySchedule) (order : List (Fin 16)) (h : Word × Word) :
    order.reverse.foldl (feistelRound k) (order.foldl (feistelRound k) h).swap = h.swap := by
  induction order generalizing h with
  | nil => rfl
  | cons i rest ih =>
    rw [List.foldl_cons, List.reverse_cons, List.foldl_concat, ih, feistelRound_swap_feistelRound]

theorem blockFunction_reverse_blockFunction (k : KeySchedule) (order : List (Fin 16)) (b : Block) :
    blockFunction k order.reverse (blockFunction k order b) = b := by
  have hswap : ∀ h, halves (exchanged h) = h.swap := halves_exchanged
  rw [blockFunction, blockFunction, hswap, foldl_reverse_swap_foldl]
  exact exchanged_halves b

theorem decrypt_encrypt (k : KeySchedule) (b : Block) : decrypt k (encrypt k b) = b :=
  blockFunction_reverse_blockFunction k roundNumbers b

theorem encrypt_decrypt (k : KeySchedule) (b : Block) : encrypt k (decrypt k b) = b :=
  blockFunction_reverse_blockFunction k roundNumbers.reverse b

/-- Settles O26: a block survives the register pair, and the two block functions are inverse. -/
theorem encblkAndDecblkAreInverse : Obligations.EncblkAndDecblkAreInverse := by
  intro s hhalt hkey
  refine ⟨⟨_, _, exec_encblk_of_key hhalt hkey, exec_decblk_of_key hhalt hkey, ?_⟩,
    ⟨_, _, exec_decblk_of_key hhalt hkey, exec_encblk_of_key hhalt hkey, ?_⟩⟩
  · simp [decrypt_encrypt]
  · simp [encrypt_decrypt]

end Sys2Proof.Machine

namespace Sys2Proof.Machine

/- The whole text comes near the memory a compile may take; proofs elaborated one after the other need
less of it than proofs elaborated side by side. -/
set_option Elab.async false

/-! ### The outcomes of CFBINIT, CFBDEC and CFBEND (42_cfb_engine.md R170, R174, R175) -/

/-- Settles O19: the outcomes of the checks, with the effect of CFBINIT. -/
theorem cfbinitStartsAStream : Obligations.CfbinitStartsAStream :=
  ⟨by decide, fun _ hhalt => exec_of_lenZero_needKey (op := .cfbinit) hhalt fun _ => rfl⟩

/-- Settles O21: with no length the stream decides, and the length comes before it. -/
theorem cfbendEndsTheStream : Obligations.CfbendEndsTheStream := by
  refine ⟨by decide, fun s hhalt => ⟨fun hactive => exec_runs hhalt ?_,
    fun hidle => exec_fails (e := .noStream) hhalt ?_,
    fun n hn => exec_fails (e := .badLen) hhalt ?_⟩⟩
  · simp [firstFailing, hactive]
  · simp [firstFailing, hidle]
  · simp [firstFailing, lenZero, hn]

/-- CFBDEC outside the fail-stop, once its checks have passed (42_cfb_engine.md R174). -/
theorem exec_cfbdec_of_active {s : State} {n : Nat} (hhalt : s.halt = false)
    (hactive : s.cfb.cfba = true) (h1 : 1 ≤ n) (h8 : n ≤ 8) :
    exec (.cfbdec n) s = .next
      { s with
        cfb := (cfbBytes s.sched (chunkOperand s n) s.cfb).1
        dout := bytesPair (padBlock (cfbBytes s.sched (chunkOperand s n) s.cfb).2)
        err := 0 } :=
  exec_runs hhalt (firstFailing_cfbdec_eq_none.mpr ⟨⟨h1, h8⟩, hactive⟩)

/-- Settles O20: the effect of CFBDEC, and its three checks in their order. -/
theorem cfbdecDecryptsTheChunk : Obligations.CfbdecDecryptsTheChunk := by
  refine ⟨fun n h1 h8 => ?_, fun s hhalt => ⟨fun n h1 h8 hactive => ?_, fun n h1 h8 hidle => ?_, ?_,
    fun n h8 => ?_⟩⟩
  · interval_cases n <;> rfl
  · exact ⟨_, _, rfl, (cfbBytes_length _ _ _).trans (chunkOperand_length s h8),
      exec_cfbdec_of_active hhalt hactive h1 h8⟩
  · have hlen : lenChunk n = none := lenChunk_eq_none.mpr ⟨h1, h8⟩
    exact exec_fails (e := .noStream) hhalt (by simp [firstFailing, hlen, hidle])
  · exact exec_fails (e := .zeroLen) hhalt (by simp [firstFailing])
  · have hlen : lenChunk n = some .badLen := lenChunk_eq_some.mpr (.inr ⟨h8, rfl⟩)
    exact exec_fails (e := .badLen) hhalt (by simp [firstFailing, hlen])

/-! ### One byte of a stream (42_cfb_engine.md R171 to R173) -/

@[simp] theorem consumeByte_pb (c : Byte) (t : CfbState) : (consumeByte c t).pb = t.pb := by
  unfold consumeByte; split <;> rfl

/-- `PB[j]` keeps the plaintext byte of stream index `6 + j` (42_cfb_engine.md R172). -/
theorem notePrefix_pb (p : Byte) (t : CfbState) (j : Fin 4) :
    (notePrefix p t).pb[j] = if t.pfx.val = 6 + j.val then p else t.pb[j] := by
  rcases Nat.lt_trichotomy t.pfx.val 9 with h | h | h
  · rw [notePrefix_early p h]
    by_cases h6 : 6 ≤ t.pfx.val
    · have hiff : t.pfx.val - 6 = j.val ↔ t.pfx.val = 6 + j.val := by omega
      simp [h6, Vector.getElem_set, hiff]
    · have hne : t.pfx.val ≠ 6 + j.val := by omega
      simp [h6, hne]
  · have hiff : 3 = j.val ↔ t.pfx.val = 6 + j.val := by omega
    simp [notePrefix_tenth p h, resync, Vector.getElem_set, hiff]
  · have hne : t.pfx.val ≠ 6 + j.val := by omega
    rw [notePrefix_over p (by omega), if_neg hne]

theorem cfbByte_snd (k : KeySchedule) (c : Byte) (t : CfbState) :
    (cfbByte k c t).2 = c ^^^ (keystreamOf k t)[t.pos] := by rw [cfbByte_eq]

theorem cfbByte_pb (k : KeySchedule) (c : Byte) (t : CfbState) (j : Fin 4) :
    (cfbByte k c t).1.pb[j] =
      if t.pfx.val = 6 + j.val then (cfbByte k c t).2 else t.pb[j] := by
  simp only [cfbByte_eq, notePrefix_pb, consumeByte_pfx, consumeByte_pb]

/-- A byte that neither completes its block nor makes the quick check: `KS` and `CB` go with the block. -/
theorem cfbByte_inside {t : CfbState} (k : KeySchedule) (c : Byte) (h9 : t.pfx.val ≠ 9)
    (hpos : t.pos.val < 7) :
    (cfbByte k c t).1.pos.val = t.pos.val + 1 ∧ (cfbByte k c t).1.fr = t.fr ∧
      (cfbByte k c t).1.ks = keystreamOf k t ∧ (cfbByte k c t).1.cb = t.cb.set t.pos c := by
  rw [cfbByte_eq, consumeByte_inside (t := { t with ks := keystreamOf k t }) c hpos]
  obtain ⟨pfx, pb, -, heq⟩ := notePrefix_of_pfx_ne (c ^^^ (keystreamOf k t)[t.pos])
    (t := { t with
      ks := keystreamOf k t, cb := t.cb.set t.pos c, pos := ⟨t.pos.val + 1, by omega⟩ }) h9
  simp only [heq, and_self]

/-- The byte that completes its block, which becomes the feedback register. -/
theorem cfbByte_last {t : CfbState} (k : KeySchedule) (c : Byte) (h9 : t.pfx.val ≠ 9)
    (hpos : t.pos.val = 7) :
    (cfbByte k c t).1.pos = 0 ∧ (cfbByte k c t).1.fr = t.cb.set 7 c ∧
      (cfbByte k c t).1.ks = zeroBlock ∧ (cfbByte k c t).1.cb = zeroBlock := by
  rw [cfbByte_eq, consumeByte_last (t := { t with ks := keystreamOf k t }) c hpos]
  obtain ⟨pfx, pb, -, heq⟩ := notePrefix_of_pfx_ne (c ^^^ (keystreamOf k t)[t.pos])
    (t := { t with fr := t.cb.set 7 c, cb := zeroBlock, ks := zeroBlock, pos := 0 }) h9
  simp only [heq, and_self]

theorem keystreamOf_of_pos_ne {t : CfbState} (k : KeySchedule) (h : t.pos.val ≠ 0) :
    keystreamOf k t = t.ks := if_neg fun h0 => h (congrArg Fin.val h0)

theorem keystreamOf_of_pos_eq {t : CfbState} (k : KeySchedule) (h : t.pos = 0) :
    keystreamOf k t = encrypt k t.fr := if_pos h

/-- The keystream block stays until its block is complete. -/
theorem keystreamOf_cfbByte_inside {t : CfbState} (k : KeySchedule) (c : Byte) (h9 : t.pfx.val ≠ 9)
    (hpos : t.pos.val < 7) : keystreamOf k (cfbByte k c t).1 = keystreamOf k t := by
  obtain ⟨hpos', -, hks, -⟩ := cfbByte_inside k c h9 hpos
  rw [keystreamOf_of_pos_ne k (by omega), hks]

/-- The byte of stream index 9: the quick check, and the feedback register is resynchronised
(42_cfb_engine.md R172, R173). -/
theorem cfbByte_tenth {t : CfbState} (k : KeySchedule) (c : Byte) (h9 : t.pfx = 9)
    (hpos : t.pos = 1) :
    cfbByte k c t =
      ({ t with
          fr := #v[t.fr[2], t.fr[3], t.fr[4], t.fr[5], t.fr[6], t.fr[7], t.cb[0], c]
          ks := zeroBlock, cb := zeroBlock, pos := 0, pfx := 10
          pb := t.pb.set 3 (c ^^^ t.ks[1]), qcdone := true
          qcfail := quickCheckFails (t.pb.set 3 (c ^^^ t.ks[1])) },
        c ^^^ t.ks[1]) := by
  have h1 : t.pos.val = 1 := congrArg Fin.val hpos
  have hks : keystreamOf k t = t.ks := keystreamOf_of_pos_ne k (by omega)
  rw [cfbByte_eq, notePrefix_tenth _ (by rw [consumeByte_pfx, h9]; rfl),
    consumeByte_inside (t := { t with ks := keystreamOf k t }) c (by simp [h1])]
  simp [resync, hks, hpos]

/-! ### A CFBDEC of one byte -/

theorem exec_cfbdec_one {s : State} (hhalt : s.halt = false) (hactive : s.cfb.cfba = true) :
    exec (.cfbdec 1) s = .next
      { s with
        cfb := (cfbByte s.sched (byteOf s.din[0] 0) s.cfb).1
        dout := #v[be32 (cfbByte s.sched (byteOf s.din[0] 0) s.cfb).2 0 0 0, 0]
        err := 0 } := by
  have hchunk : chunkOperand s 1 = [byteOf s.din[0] 0] := by
    rw [chunkOperand, pairBytes_eq]
    rfl
  have hdout (p : Byte) : bytesPair (padBlock [p]) = #v[be32 p 0 0 0, 0] := by
    simp [bytesPair, padBlock, be32]
  rw [exec_cfbdec_of_active hhalt hactive le_rfl (by decide), hchunk, cfbBytes_cons, cfbBytes_nil,
    hdout]

/-- Settles O29: the tenth byte, with the four kept bytes written out. -/
theorem tenthByteChecksAndResynchronises : Obligations.TenthByteChecksAndResynchronises := by
  intro s hhalt hactive hpfx hpos c p
  have hpb : s.cfb.pb.set 3 p = #v[s.cfb.pb[0], s.cfb.pb[1], s.cfb.pb[2], p] := by
    apply Vector.ext
    intro i hi
    interval_cases i <;> simp
  have hcheck : quickCheckFails #v[s.cfb.pb[0], s.cfb.pb[1], s.cfb.pb[2], p] =
      decide (s.cfb.pb[0] ≠ s.cfb.pb[2] ∨ s.cfb.pb[1] ≠ p) := by
    rw [Bool.eq_iff_iff]
    simp [quickCheckFails]
  rw [exec_cfbdec_one hhalt hactive, cfbByte_tenth s.sched c hpfx hpos, hpb, hcheck, hactive]

/-- Settles O30: one byte, which is not the tenth. -/
theorem prefixBytesAreDecryptedAndKept : Obligations.PrefixBytesAreDecryptedAndKept := by
  intro s hhalt hactive hpfx c ks p
  have h9 : s.cfb.pfx.val ≠ 9 := by omega
  have hp : (cfbByte s.sched c s.cfb).2 = p := cfbByte_snd s.sched c s.cfb
  obtain ⟨hdone, hfail⟩ := cfbByte_flags_of_pfx_ne s.sched c h9
  refine ⟨(cfbByte s.sched c s.cfb).1, ?_, ?_, (cfbByte_cfba _ c _).trans hactive, hdone, hfail,
    fun j => ?_, cfbByte_inside s.sched c h9, cfbByte_last s.sched c h9⟩
  · rw [exec_cfbdec_one hhalt hactive, hp]
  · rw [cfbByte_pfx]
    omega
  · rw [cfbByte_pb, hp]

/-- Settles O31: one byte of message data, of which nothing is kept. -/
theorem dataBytesAreDecrypted : Obligations.DataBytesAreDecrypted := by
  intro s hhalt hactive hpfx c ks p
  have h10 : s.cfb.pfx.val = 10 := congrArg Fin.val hpfx
  have h9 : s.cfb.pfx.val ≠ 9 := by omega
  have hp : (cfbByte s.sched c s.cfb).2 = p := cfbByte_snd s.sched c s.cfb
  obtain ⟨hdone, hfail⟩ := cfbByte_flags_of_pfx_ne s.sched c h9
  refine ⟨(cfbByte s.sched c s.cfb).1, ?_, Fin.ext ?_, Vector.ext fun j hj => ?_,
    (cfbByte_cfba _ c _).trans hactive, hdone, hfail, cfbByte_inside s.sched c h9,
    cfbByte_last s.sched c h9⟩
  · rw [exec_cfbdec_one hhalt hactive, hp]
  · rw [cfbByte_pfx, h10]
    rfl
  · exact (cfbByte_pb s.sched c s.cfb ⟨j, hj⟩).trans (if_neg (by simp only [h10]; omega))

/-! ### A run of bytes inside one block (42_cfb_engine.md R171, R177) -/

@[simp] theorem xorStream_length (bs : List Byte) (ks : Block) :
    (xorStream bs ks).length = min bs.length 8 := by
  rw [xorStream, List.length_zipWith, Vector.length_toList]

/-- Exclusive-or with the same keystream block is its own inverse. -/
theorem xorStream_xorStream (bs : List Byte) (ks : Block) :
    xorStream (xorStream bs ks) ks = bs.take 8 := by
  apply List.ext_getElem
  · rw [xorStream_length, xorStream_length, List.length_take]
    omega
  · intro i _ _
    simp only [xorStream, List.getElem_zipWith, List.getElem_take, BitVec.xor_assoc,
      BitVec.xor_self, BitVec.xor_zero]

/-- The next `n` bytes of a stream do not hold stream index 9 (42_cfb_engine.md R172). -/
def ClearOfTenth (t : CfbState) (n : Nat) : Prop := t.pfx.val = 10 ∨ t.pfx.val + n < 10

theorem ClearOfTenth.pfx_ne {t : CfbState} {n : Nat} (h : ClearOfTenth t (n + 1)) :
    t.pfx.val ≠ 9 := by
  unfold ClearOfTenth at h
  omega

theorem ClearOfTenth.step {t : CfbState} {n : Nat} (h : ClearOfTenth t (n + 1)) (k : KeySchedule)
    (c : Byte) : ClearOfTenth (cfbByte k c t).1 n := by
  unfold ClearOfTenth at *
  rw [cfbByte_pfx]
  omega

theorem drop_pos_eq_cons (b : Block) (i : Fin 8) :
    b.toList.drop i = b[i] :: b.toList.drop (i.val + 1) := by
  rw [List.drop_eq_getElem_cons (by simp)]
  simp

/-- Bytes that stay in their block, and reach stream index 9 at most with their last, are combined with
the keystream block from `POS` on. -/
theorem cfbBytes_plaintext (k : KeySchedule) (cs : List Byte) (t : CfbState)
    (hfit : t.pos.val + cs.length ≤ 8) (hclear : ClearOfTenth t (cs.length - 1)) :
    (cfbBytes k cs t).2 = List.zipWith (· ^^^ ·) cs ((keystreamOf k t).toList.drop t.pos) := by
  induction cs generalizing t with
  | nil => rfl
  | cons c cs ih =>
    rw [cfbBytes_cons, drop_pos_eq_cons, List.zipWith_cons_cons, cfbByte_snd]
    cases cs with
    | nil => rfl
    | cons d ds =>
      rw [List.length_cons, List.length_cons] at hfit
      have hinside : t.pos.val < 7 := by omega
      obtain ⟨hpos, -, -, -⟩ := cfbByte_inside k c hclear.pfx_ne hinside
      have hfit' : (cfbByte k c t).1.pos.val + (d :: ds).length ≤ 8 := by
        rw [hpos, List.length_cons]
        omega
      rw [ih _ hfit' (hclear.step k c), keystreamOf_cfbByte_inside k c hclear.pfx_ne hinside, hpos]

/-- At the start of a block the keystream block is `Encrypt(FR)`. -/
theorem cfbBytes_plaintext_of_pos_eq (k : KeySchedule) (cs : List Byte) {t : CfbState}
    (hpos : t.pos = 0) (hfit : cs.length ≤ 8) (hclear : ClearOfTenth t (cs.length - 1)) :
    (cfbBytes k cs t).2 = xorStream cs (encrypt k t.fr) := by
  rw [cfbBytes_plaintext k cs t (by simpa [hpos] using hfit) hclear, hpos,
    keystreamOf_of_pos_eq k hpos]
  rfl

theorem take_succ_set (b : Block) {n : Nat} (hn : n < 8) (c : Byte) :
    (b.set n c).toList.take (n + 1) = b.toList.take n ++ [c] := by
  rw [List.take_succ_eq_append_getElem (by simpa using hn)]
  simp [Vector.toList_set, List.take_set_of_le]

/-- Bytes that fill up their block, away from stream index 9: the block is the feedback register. -/
theorem cfbBytes_completes (k : KeySchedule) (cs : List Byte) (t : CfbState) (hne : cs ≠ [])
    (hfill : t.pos.val + cs.length = 8) (hclear : ClearOfTenth t cs.length) :
    (cfbBytes k cs t).1.pos = 0 ∧
      (cfbBytes k cs t).1.fr = padBlock (t.cb.toList.take t.pos ++ cs) ∧
      (cfbBytes k cs t).1.ks = zeroBlock ∧ (cfbBytes k cs t).1.cb = zeroBlock := by
  induction cs generalizing t with
  | nil => exact absurd rfl hne
  | cons c cs ih =>
    rw [List.length_cons] at hfill
    have hset (hlt : t.pos.val < 8) :
        (t.cb.set t.pos c).toList.take (t.pos.val + 1) = t.cb.toList.take t.pos ++ [c] :=
      take_succ_set t.cb hlt c
    cases cs with
    | nil =>
      have h7 : t.pos.val = 7 := by simpa using hfill
      obtain ⟨hpos, hfr, hks, hcb⟩ := cfbByte_last k c hclear.pfx_ne h7
      have hblock : (t.cb.set 7 c).toList = t.cb.toList.take t.pos ++ [c] := by
        rw [← hset t.pos.isLt, List.take_of_length_le (by simp [h7])]
        simp only [h7]
      exact ⟨hpos, by rw [← hblock, padBlock_toList]; exact hfr, hks, hcb⟩
    | cons d ds =>
      have hinside : t.pos.val < 7 := by
        rw [List.length_cons] at hfill
        omega
      obtain ⟨hpos, -, -, hcb⟩ := cfbByte_inside k c hclear.pfx_ne hinside
      have hfill' : (cfbByte k c t).1.pos.val + (d :: ds).length = 8 := by
        rw [hpos]
        omega
      obtain ⟨ihpos, ihfr, ihks, ihcb⟩ := ih _ (List.cons_ne_nil d ds) hfill' (hclear.step k c)
      refine ⟨ihpos, ?_, ihks, ihcb⟩
      rw [cfbBytes_cons, ihfr, hcb, hpos, hset t.pos.isLt, List.append_assoc, List.singleton_append]

/-- A whole block, away from stream index 9 (42_cfb_engine.md R177). -/
theorem cfbBytes_wholeBlock (k : KeySchedule) {cs : List Byte} {t : CfbState} (hpos : t.pos = 0)
    (hlen : cs.length = 8) (hclear : ClearOfTenth t cs.length) :
    (cfbBytes k cs t).1.pos = 0 ∧ (cfbBytes k cs t).1.fr = padBlock cs ∧
      (cfbBytes k cs t).1.ks = zeroBlock ∧ (cfbBytes k cs t).1.cb = zeroBlock := by
  have hne : cs ≠ [] := List.ne_nil_of_length_eq_add_one hlen
  simpa [hpos] using cfbBytes_completes k cs t hne (by simpa [hpos] using hlen) hclear

/-! ### The kept plaintext bytes and the quick check (42_cfb_engine.md R172) -/

theorem cfbByte_pfx_of_lt {t : CfbState} (k : KeySchedule) (c : Byte) (h : t.pfx.val < 10) :
    (cfbByte k c t).1.pfx.val = t.pfx.val + 1 := by
  rw [cfbByte_pfx]
  exact Nat.min_eq_right h

/-- A kept byte stays, once its stream index has passed. -/
theorem cfbBytes_pb_of_passed (k : KeySchedule) (cs : List Byte) (t : CfbState) (j : Fin 4)
    (h : 6 + j.val < t.pfx.val) : (cfbBytes k cs t).1.pb[j] = t.pb[j] := by
  induction cs generalizing t with
  | nil => rfl
  | cons c cs ih =>
    have hnext : 6 + j.val < (cfbByte k c t).1.pfx.val := by
      rw [cfbByte_pfx]
      omega
    exact (ih _ hnext).trans ((cfbByte_pb k c t j).trans (if_neg h.ne'))

/-- `PB[j]` holds the plaintext byte of stream index `6 + j`, which a chunk holds at `d`. -/
theorem cfbBytes_pb (k : KeySchedule) (cs : List Byte) (t : CfbState) (j : Fin 4) (d : Nat)
    (hindex : t.pfx.val + d = 6 + j.val) (hd : d < cs.length) :
    (cfbBytes k cs t).1.pb[j] = (cfbBytes k cs t).2.getD d 0 := by
  induction cs generalizing t d with
  | nil => exact absurd hd (Nat.not_lt_zero d)
  | cons c cs ih =>
    have hcount := cfbByte_pfx_of_lt k c (t := t) (by omega)
    cases d with
    | zero =>
      have hkept : (cfbByte k c t).1.pb[j] = (cfbByte k c t).2 :=
        (cfbByte_pb k c t j).trans (if_pos hindex)
      exact (cfbBytes_pb_of_passed k cs _ j (by omega)).trans hkept
    | succ d => exact ih _ d (by omega) (Nat.lt_of_succ_lt_succ hd)

/-- Of message data nothing is kept. -/
theorem cfbBytes_pb_over (k : KeySchedule) (cs : List Byte) {t : CfbState} (h : t.pfx.val = 10) :
    (cfbBytes k cs t).1.pb = t.pb :=
  Vector.ext fun j hj => cfbBytes_pb_of_passed k cs t ⟨j, hj⟩ (by simp only [h]; omega)

theorem cfbByte_qcfail_of_pfx_eq {t : CfbState} (k : KeySchedule) (c : Byte) (h : t.pfx.val = 9) :
    (cfbByte k c t).1.qcfail = quickCheckFails (cfbByte k c t).1.pb := by
  rw [cfbByte_eq, notePrefix_tenth _ (by rwa [consumeByte_pfx])]
  rfl

/-- A chunk that holds stream index 9, at `d`, compares the bytes it leaves in `PB`. -/
theorem cfbBytes_qcfail_of_crossing (k : KeySchedule) (cs : List Byte) (t : CfbState) (d : Nat)
    (hindex : t.pfx.val + d = 9) (hd : d < cs.length) :
    (cfbBytes k cs t).1.qcfail = quickCheckFails (cfbBytes k cs t).1.pb := by
  induction cs generalizing t d with
  | nil => exact absurd hd (Nat.not_lt_zero d)
  | cons c cs ih =>
    have hcount := cfbByte_pfx_of_lt k c (t := t) (by omega)
    rw [cfbBytes_cons]
    cases d with
    | zero =>
      have hover : (cfbByte k c t).1.pfx.val = 10 := hcount.trans (congrArg (· + 1) hindex)
      obtain ⟨-, hfail⟩ := cfbBytes_flags_of_not_crossing k cs _ (.inl hover)
      rw [hfail, cfbBytes_pb_over k cs hover, cfbByte_qcfail_of_pfx_eq k c hindex]
    | succ d => exact ih _ d (by omega) (Nat.lt_of_succ_lt_succ hd)

/-- Settles O32: the eight bytes fill one block of message data. -/
theorem dataBlocksFollowTheBlockwiseChain : Obligations.DataBlocksFollowTheBlockwiseChain := by
  intro s hhalt hactive hpfx hpos b
  have h10 : s.cfb.pfx.val = 10 := congrArg Fin.val hpfx
  have hlen : b.toList.length = 8 := b.length_toList
  have hchunk : chunkOperand s 8 = b.toList := List.take_of_length_le hlen.le
  have hplain := cfbBytes_plaintext_of_pos_eq s.sched b.toList hpos hlen.le (.inl h10)
  obtain ⟨hpos', hfr, hks, hcb⟩ := cfbBytes_wholeBlock s.sched hpos hlen (.inl h10)
  obtain ⟨hdone, hfail⟩ := cfbBytes_flags_of_not_crossing s.sched b.toList s.cfb (.inl h10)
  refine ⟨_, exec_cfbdec_of_active hhalt hactive (by decide) le_rfl, ?_⟩
  simp only [hchunk, hfr, padBlock_toList, hplain, pairBytes_bytesPair, true_and]
  refine ⟨fun j => ?_, hpos', hks, hcb, Fin.ext ?_, cfbBytes_pb_over _ _ h10,
    (cfbBytes_cfba _ _ _).trans hactive, hdone, hfail, hhalt⟩
  · simp [padBlock, xorStream]
  · rw [cfbBytes_pfx, h10]
    rfl

/-! ### Feeding a stream (42_cfb_engine.md R176) -/

/-- The core once the host has staged a chunk and had it decrypted. -/
def decryptedStaged (s : State) (c : List Byte) : State :=
  { stageChunk s c with
    cfb := (cfbBytes s.sched c s.cfb).1
    dout := bytesPair (padBlock (cfbBytes s.sched c s.cfb).2)
    err := 0 }

theorem exec_stageChunk {s : State} {c : List Byte} (hhalt : s.halt = false)
    (hactive : s.cfb.cfba = true) (h1 : 1 ≤ c.length) (h8 : c.length ≤ 8) :
    exec (.cfbdec c.length) (stageChunk s c) = .next (decryptedStaged s c) := by
  have hchunk : chunkOperand (stageChunk s c) c.length = c := chunkOperand_staged s c h8
  rw [exec_cfbdec_of_active (s := stageChunk s c) hhalt hactive h1 h8, hchunk]
  rfl

/-- What the host reads back is the plaintext of the chunk (30_encoding.md R108). -/
theorem take_dout_decryptedStaged (s : State) {c : List Byte} (h8 : c.length ≤ 8) :
    (pairBytes (decryptedStaged s c).dout).toList.take c.length = (cfbBytes s.sched c s.cfb).2 := by
  have hlen := cfbBytes_length s.sched c s.cfb
  rw [decryptedStaged, pairBytes_bytesPair, ← hlen, take_padBlock _ (by rwa [hlen])]

/-- Feeding a stream runs the engine over the bytes of all chunks, whatever the cuts. -/
theorem feed_eq {s : State} {xs : List (List Byte)} (hhalt : s.halt = false)
    (hactive : s.cfb.cfba = true) (hxs : ∀ c ∈ xs, 1 ≤ c.length ∧ c.length ≤ 8) :
    ∃ t, feed s xs = some (t, (cfbBytes s.sched xs.flatten s.cfb).2) ∧
      t.cfb = (cfbBytes s.sched xs.flatten s.cfb).1 := by
  induction xs generalizing s with
  | nil => exact ⟨s, rfl, rfl⟩
  | cons c cs ih =>
    obtain ⟨⟨h1, h8⟩, hcs⟩ := List.forall_mem_cons.mp hxs
    have hactive' : (decryptedStaged s c).cfb.cfba = true := (cfbBytes_cfba _ _ _).trans hactive
    obtain ⟨t, hfeed, hcfb⟩ := ih (s := decryptedStaged s c) hhalt hactive' hcs
    rw [List.flatten_cons, cfbBytes_append]
    refine ⟨t, ?_, hcfb⟩
    simp only [feed, exec_stageChunk hhalt hactive h1 h8, hfeed, take_dout_decryptedStaged s h8]
    rfl

/-- Settles O35: both cuts run the engine over the same bytes. -/
theorem chunkingDoesNotMatter : Obligations.ChunkingDoesNotMatter := by
  intro s xs ys hhalt hactive hxs hys hsame
  obtain ⟨t, hfeedx, ht⟩ := feed_eq hhalt hactive hxs
  obtain ⟨u, hfeedy, hu⟩ := feed_eq hhalt hactive hys
  rw [hsame] at hfeedx ht
  exact ⟨t, u, _, hfeedx, hfeedy, ht.trans hu.symm⟩

/-! ### The producer's ciphertext (42_cfb_engine.md R177, 95_test_vectors.md section 3) -/

theorem produceData_nil (k : KeySchedule) (fuel : Nat) (fr : Block) :
    produceData k fuel fr [] = [] := by
  cases fuel <;> rfl

/-- One of the producer's data blocks, the last one possibly shorter. -/
theorem cfbBytes_dataBlock (k : KeySchedule) (m : List Byte) {t : CfbState}
    (hpfx : t.pfx.val = 10) (hpos : t.pos = 0) :
    (cfbBytes k (xorStream (m.take 8) (encrypt k t.fr)) t).2 = m.take 8 := by
  rw [cfbBytes_plaintext_of_pos_eq k _ hpos (by simp) (.inl hpfx), xorStream_xorStream,
    List.take_take, min_self]

/-- The chain of data blocks: each block of the producer's is decrypted, and it is the feedback register
of the next. -/
theorem cfbBytes_produceData (k : KeySchedule) (fuel : Nat) (m : List Byte) {t : CfbState}
    (hfuel : m.length ≤ fuel) (hpfx : t.pfx.val = 10) (hpos : t.pos = 0) :
    (cfbBytes k (produceData k fuel t.fr m) t).2 = m := by
  induction fuel generalizing m t with
  | zero =>
    obtain rfl : m = [] := List.length_eq_zero_iff.mp (Nat.le_zero.mp hfuel)
    rfl
  | succ fuel ih =>
    cases m with
    | nil => rfl
    | cons b bs =>
      rw [produceData, cfbBytes_append, cfbBytes_dataBlock k (b :: bs) hpfx hpos]
      by_cases hshort : (b :: bs).length ≤ 8
      · rw [List.drop_of_length_le hshort, List.take_of_length_le hshort, produceData_nil,
          cfbBytes_nil, List.append_nil]
      · have hlen : (xorStream ((b :: bs).take 8) (encrypt k t.fr)).length = 8 := by
          rw [xorStream_length, List.length_take]
          omega
        obtain ⟨hpos', hfr, -, -⟩ := cfbBytes_wholeBlock k hpos hlen (.inl hpfx)
        have hpfx' := cfbBytes_pfx k (xorStream ((b :: bs).take 8) (encrypt k t.fr)) t
        have hrest : ((b :: bs).drop 8).length ≤ fuel := by
          rw [List.length_drop]
          omega
        rw [← hfr, ih _ hrest (by rw [hpfx', hpfx]; omega) hpos', List.take_append_drop]

/-- The producer's random block. -/
theorem cfbBytes_startStream_block (k : KeySchedule) (iv r : Block) :
    let c1 := xorStream r.toList (encrypt k iv)
    (cfbBytes k c1 (startStream iv)).2 = r.toList ∧
      (cfbBytes k c1 (startStream iv)).1.pos = 0 ∧
      (cfbBytes k c1 (startStream iv)).1.pfx = 8 ∧
      (cfbBytes k c1 (startStream iv)).1.fr = padBlock c1 := by
  intro c1
  have hlen : c1.length = 8 := by simp [c1]
  have hpfx : (startStream iv).pfx.val = 0 := rfl
  have hclear : ClearOfTenth (startStream iv) c1.length := .inr (by rw [hpfx, hlen]; decide)
  have hclear' : ClearOfTenth (startStream iv) (c1.length - 1) := .inr (by rw [hpfx, hlen]; decide)
  obtain ⟨hpos, hfr, -, -⟩ := cfbBytes_wholeBlock k rfl hlen hclear
  refine ⟨?_, hpos, Fin.ext ?_, hfr⟩
  · rw [cfbBytes_plaintext_of_pos_eq k c1 rfl hlen.le hclear']
    exact (xorStream_xorStream _ _).trans (List.take_of_length_le (by simp))
  · rw [cfbBytes_pfx, hlen]
    rfl

/-- `FR[2..7] ++ CB[0..1]` of R173 is `C[2..9]`. -/
theorem resync_padBlock {c1 : List Byte} (hlen : c1.length = 8) (x y : Byte) :
    #v[(padBlock c1)[2], (padBlock c1)[3], (padBlock c1)[4], (padBlock c1)[5], (padBlock c1)[6],
      (padBlock c1)[7], x, y] = padBlock ((c1 ++ [x, y]).drop 2) := by
  match c1, hlen with
  | [_, _, _, _, _, _, _, _], _ => rfl

/-- Stream indices 8 and 9: the resynchronised feedback register is the last eight ciphertext bytes
(42_cfb_engine.md R173). -/
theorem cfbBytes_resync (k : KeySchedule) {c1 : List Byte} (x y : Byte) {t : CfbState}
    (hpos : t.pos = 0) (hpfx : t.pfx = 8) (hlen : c1.length = 8) (hfr : t.fr = padBlock c1) :
    (cfbBytes k [x, y] t).1.pos = 0 ∧ (cfbBytes k [x, y] t).1.pfx = 10 ∧
      (cfbBytes k [x, y] t).1.fr = padBlock ((c1 ++ [x, y]).drop 2) := by
  obtain ⟨hpos', hfr', -, hcb'⟩ := cfbByte_inside k x (t := t) (by simp [hpfx]) (by simp [hpos])
  have h9 : (cfbByte k x t).1.pfx = 9 := Fin.ext (by rw [cfbByte_pfx, hpfx]; rfl)
  have h1 : (cfbByte k x t).1.pos = 1 := Fin.ext (by rw [hpos', hpos]; rfl)
  have hx : (cfbByte k x t).1.cb[0] = x := by simp [hcb', hpos]
  rw [cfbBytes_cons, cfbBytes_cons, cfbBytes_nil, cfbByte_tenth k y h9 h1]
  refine ⟨rfl, rfl, ?_⟩
  simp only [hx, hfr', hfr]
  exact resync_padBlock hlen x y

/-- The producer's two repeat bytes. -/
theorem cfbBytes_repeat (k : KeySchedule) (p q : Byte) {c1 : List Byte} {t : CfbState}
    (hpos : t.pos = 0) (hpfx : t.pfx = 8) (hlen : c1.length = 8) (hfr : t.fr = padBlock c1) :
    let c2 := xorStream [p, q] (encrypt k (padBlock c1))
    (cfbBytes k c2 t).2 = [p, q] ∧ (cfbBytes k c2 t).1.pos = 0 ∧ (cfbBytes k c2 t).1.pfx = 10 ∧
      (cfbBytes k c2 t).1.fr = padBlock ((c1 ++ c2).drop 2) := by
  intro c2
  have hlen2 : c2.length = 2 := by simp [c2]
  have hclear : ClearOfTenth t (c2.length - 1) := .inr (by rw [hpfx, hlen2]; decide)
  have hplain := cfbBytes_plaintext_of_pos_eq k c2 hpos (by omega) hclear
  rw [hfr, xorStream_xorStream] at hplain
  obtain ⟨x, y, hxy⟩ := List.length_eq_two.mp hlen2
  exact ⟨hplain, hxy ▸ cfbBytes_resync k x y hpos hpfx hlen hfr⟩

/-- The engine decrypts what the producer makes: the first block, the repeat bytes, the data. -/
theorem cfbBytes_produce (k : KeySchedule) (iv r : Block) (m : List Byte) :
    (cfbBytes k (produce k iv r m) (startStream iv)).2 = r.toList ++ [r[6], r[7]] ++ m := by
  obtain ⟨hplain1, hpos1, hpfx1, hfr1⟩ := cfbBytes_startStream_block k iv r
  obtain ⟨hplain2, hpos2, hpfx2, hfr2⟩ :=
    cfbBytes_repeat k r[6] r[7] hpos1 hpfx1 (by simp) hfr1
  have hplain3 := cfbBytes_produceData k m.length m le_rfl (congrArg Fin.val hpfx2) hpos2
  rw [hfr2] at hplain3
  simp only [produce, cfbBytes_append]
  rw [hplain1, hplain2, hplain3]

/-- A repeat of the two bytes passes the quick check. -/
theorem quickCheckFails_eq_false {pb : Vector Byte 4} :
    quickCheckFails pb = false ↔ pb[0] = pb[2] ∧ pb[1] = pb[3] := by
  simp [quickCheckFails]

theorem cfbBytes_produce_quickCheck (k : KeySchedule) (iv r : Block) (m : List Byte) :
    (cfbBytes k (produce k iv r m) (startStream iv)).1.qcdone = true ∧
      (cfbBytes k (produce k iv r m) (startStream iv)).1.qcfail = false := by
  have hplain := cfbBytes_produce k iv r m
  have hlen := cfbBytes_length k (produce k iv r m) (startStream iv)
  have hten : 10 ≤ (produce k iv r m).length := by
    rw [← hlen, hplain]
    simp only [List.length_append, Vector.length_toList, List.length_cons]
    omega
  have hpb (j : Fin 4) : (cfbBytes k (produce k iv r m) (startStream iv)).1.pb[j] =
      (r.toList ++ [r[6], r[7]] ++ m).getD (6 + j.val) 0 := by
    rw [cfbBytes_pb k _ _ j (6 + j.val) (Nat.zero_add _) (by omega), hplain]
  refine ⟨cfbBytes_qcdone_of_crossing k _ _ (Nat.zero_le 9) (hten.trans (Nat.le_add_left _ _)), ?_⟩
  rw [cfbBytes_qcfail_of_crossing k _ _ 9 rfl hten, quickCheckFails_eq_false]
  refine ⟨(hpb 0).trans (.trans ?_ (hpb 2).symm), (hpb 1).trans (.trans ?_ (hpb 3).symm)⟩ <;>
    simp [List.getElem?_append]

/-- Settles O36: CFBINIT starts the stream, and feeding runs the engine over the producer's bytes. -/
theorem streamDecryptsTheProducersCiphertext : Obligations.StreamDecryptsTheProducersCiphertext := by
  intro s r m xs hhalt hkey hxs hbytes
  have hinit : exec (.cfbinit 0) s =
      .next { s with cfb := startStream (pairBytes s.din), err := 0 } :=
    exec_runs hhalt (firstFailing_cfbinit_eq_none.mpr ⟨rfl, hkey⟩)
  obtain ⟨u, hfeed, hcfb⟩ := feed_eq (xs := xs)
    (s := { s with cfb := startStream (pairBytes s.din), err := 0 }) hhalt rfl hxs
  obtain ⟨hdone, hfail⟩ := cfbBytes_produce_quickCheck s.sched (pairBytes s.din) r m
  simp only [hbytes, cfbBytes_produce] at hfeed hcfb
  exact ⟨_, u, hinit, hfeed, by rw [hcfb, hdone], by rw [hcfb, hfail]⟩

end Sys2Proof.Machine

namespace Sys2Proof.Machine

/-! ### What the quick check leaves alters no later byte (60_exceptions.md R222) -/

/-- The stream with another result of the quick check and other kept bytes. -/
def withQuickCheck (flag : Bool) (kept : Vector Byte 4) (t : CfbState) : CfbState :=
  { t with qcfail := flag, pb := kept }

theorem consumeByte_withQuickCheck (c : Byte) (flag : Bool) (kept : Vector Byte 4) (t : CfbState) :
    consumeByte c (withQuickCheck flag kept t) = withQuickCheck flag kept (consumeByte c t) := by
  by_cases h7 : t.pos.val = 7
  · rw [consumeByte_last c h7, consumeByte_last (t := withQuickCheck flag kept t) c h7]
    rfl
  · have hinside : t.pos.val < 7 := by omega
    rw [consumeByte_inside c hinside, consumeByte_inside (t := withQuickCheck flag kept t) c hinside]
    rfl

/-- A byte of message data is not noted (42_cfb_engine.md R171). -/
theorem cfbByte_of_data (k : KeySchedule) (c : Byte) {t : CfbState} (h : t.pfx.val = 10) :
    cfbByte k c t =
      (consumeByte c { t with ks := keystreamOf k t }, c ^^^ (keystreamOf k t)[t.pos]) := by
  rw [cfbByte_eq, notePrefix_over _ (by rwa [consumeByte_pfx])]

theorem cfbByte_withQuickCheck (k : KeySchedule) (c : Byte) (flag : Bool) (kept : Vector Byte 4)
    {t : CfbState} (h : t.pfx.val = 10) :
    cfbByte k c (withQuickCheck flag kept t) =
      (withQuickCheck flag kept (cfbByte k c t).1, (cfbByte k c t).2) := by
  rw [cfbByte_of_data k c h, cfbByte_of_data (t := withQuickCheck flag kept t) k c h,
    ← consumeByte_withQuickCheck]
  rfl

theorem cfbBytes_withQuickCheck (k : KeySchedule) (cs : List Byte) (flag : Bool)
    (kept : Vector Byte 4) {t : CfbState} (h : t.pfx.val = 10) :
    cfbBytes k cs (withQuickCheck flag kept t) =
      (withQuickCheck flag kept (cfbBytes k cs t).1, (cfbBytes k cs t).2) := by
  induction cs generalizing t with
  | nil => rfl
  | cons c cs ih =>
    have hnext : (cfbByte k c t).1.pfx.val = 10 := by
      rw [cfbByte_pfx]
      omega
    rw [cfbBytes_cons, cfbBytes_cons, cfbByte_withQuickCheck k c flag kept h, ih hnext]

/-- The CFBDEC of the stream that differs in the quick check alone. -/
theorem exec_cfbdec_withQuickCheck {s : State} {n : Nat} (flag : Bool) (kept : Vector Byte 4)
    (hhalt : s.halt = false) (hactive : s.cfb.cfba = true) (hpfx : s.cfb.pfx.val = 10) (h1 : 1 ≤ n)
    (h8 : n ≤ 8) :
    exec (.cfbdec n) { s with cfb := withQuickCheck flag kept s.cfb } = .next
      { s with
        cfb := withQuickCheck flag kept (cfbBytes s.sched (chunkOperand s n) s.cfb).1
        dout := bytesPair (padBlock (cfbBytes s.sched (chunkOperand s n) s.cfb).2)
        err := 0 } := by
  have hchunk : chunkOperand { s with cfb := withQuickCheck flag kept s.cfb } n = chunkOperand s n :=
    rfl
  rw [exec_cfbdec_of_active (s := { s with cfb := withQuickCheck flag kept s.cfb }) hhalt hactive h1 h8]
  simp only [hchunk, cfbBytes_withQuickCheck _ _ flag kept hpfx]

/-- Settles O34: both streams are decrypted by the same keystream, and no byte is noted. -/
theorem quickCheckResultAltersNoDecryption : Obligations.QuickCheckResultAltersNoDecryption := by
  intro s n flag kept hhalt hactive hpfx h1 h8
  have h10 : s.cfb.pfx.val = 10 := congrArg Fin.val hpfx
  obtain ⟨-, hfail⟩ := cfbBytes_flags_of_not_crossing s.sched (chunkOperand s n) s.cfb (.inl h10)
  exact ⟨_, exec_cfbdec_of_active hhalt hactive h1 h8, rfl, hfail,
    exec_cfbdec_withQuickCheck flag kept hhalt hactive h10 h1 h8⟩

/-! ### What a command leaves in `ERR` and `HALT` (60_exceptions.md R216, R218) -/

/-- A command that completes clears `ERR` (60_exceptions.md R219). -/
theorem effectOf_err {i : Instr} {s : State} (hlive : (effectOf i s).halt = false) :
    (effectOf i s).err = 0 := by
  cases i with
  | wipe n =>
    rw [effectOf] at hlive ⊢
    cases hok : Config.zeroizeOk s.wipes with
    | true => rfl
    | false => simp [hok, wipeWith_false] at hlive
  | nop | setkey | encblk | decblk | cfbinit | cfbdec | cfbend => rfl

/-- The causes by which a command can fail, its row of the table of R216. -/
def causesOf : Instr → List Err
  | .nop _ | .wipe _ => [.badLen]
  | .setkey _ => [.keyLen, .keyBusy]
  | .encblk _ | .decblk _ | .cfbinit _ => [.badLen, .noKey]
  | .cfbdec _ => [.zeroLen, .badLen, .noStream]
  | .cfbend _ => [.badLen, .noStream]

theorem mem_causesOf {i : Instr} {s : State} {e : Err} (h : firstFailing s i = some e) :
    e ∈ causesOf i := by
  cases i with
  | nop n | wipe n =>
    obtain ⟨-, rfl⟩ := lenZero_eq_some.mp h
    exact List.mem_singleton_self _
  | cfbdec n =>
    simp only [firstFailing, Option.or_eq_some_iff, lenChunk_eq_some, needStream_eq_some] at h
    rcases h with (⟨-, rfl⟩ | ⟨-, rfl⟩) | ⟨-, -, rfl⟩ <;> simp [causesOf]
  | setkey n | encblk n | decblk n | cfbinit n | cfbend n =>
    simp only [firstFailing, Option.or_eq_some_iff, lenZero_eq_some, lenKey_eq_some,
      needKey_eq_some, needStream_eq_some, needIdle_eq_some] at h
    rcases h with ⟨-, rfl⟩ | ⟨-, -, rfl⟩ <;> simp [causesOf]

/-- Outside the fail-stop a command is answered; if it halts it is a WIPE, and if it does not it leaves
no code or one of its row. -/
theorem exec_raises (i : Instr) {s : State} (hhalt : s.halt = false) :
    ∃ t, exec i s = .next t ∧ (t.halt = true → ∃ n, i = .wipe n) ∧
      (t.halt = true ∨ t.err ∈ 0 :: (causesOf i).map Err.code) := by
  cases hchecks : firstFailing s i with
  | some e =>
    refine ⟨_, exec_fails hhalt hchecks, fun h => ?_, .inr ?_⟩
    · simp [hhalt] at h
    · rw [failureOf_err]
      exact List.mem_cons_of_mem _ (List.mem_map_of_mem (mem_causesOf hchecks))
  | none =>
    refine ⟨_, exec_runs hhalt hchecks, fun h => ?_, ?_⟩
    · obtain ⟨n, hwipe, -⟩ := effectOf_halt hhalt h
      exact ⟨n, hwipe⟩
    · cases hlive : (effectOf i s).halt with
      | true => exact .inl rfl
      | false => exact .inr (effectOf_err hlive ▸ List.mem_cons_self)

/-- Settles O41: the row of each command. -/
theorem commandsRaiseOnlyTheirCodes : Obligations.CommandsRaiseOnlyTheirCodes := by
  intro i s hhalt
  obtain ⟨t, hexec, hwipe, herr⟩ := exec_raises i hhalt
  refine ⟨t, hexec, ?_⟩
  cases i with
  | wipe n => exact herr
  | nop | setkey | encblk | decblk | cfbinit | cfbdec | cfbend =>
    have hlive : t.halt = false := Bool.eq_false_iff.mpr fun h => nomatch hwipe h
    exact ⟨hlive, herr.resolve_left (by simp [hlive])⟩

/-- Settles O40: of the outcomes of a CMD write only the failures leave a code. -/
theorem failuresChangeOnlyErrAndKey : Obligations.FailuresChangeOnlyErrAndKey := by
  intro s t w hhalt haccept hlive herr
  obtain ⟨-, -, hfields, -⟩ := statusShowsItsFields t
  obtain ⟨-, -, -, -, herrf, -⟩ := hfields hlive
  refine ⟨?_, herrf.mpr herr⟩
  rw [accept_cmdInput, hhalt] at haccept
  rcases cmdWrite_cases haccept with ⟨hh, -⟩ | ⟨u, hdecode, -, rfl⟩ | ⟨i, hdecode, hexec⟩
  · simp [hhalt] at hh
  · rw [hdecode]
    rfl
  · rw [hdecode]
    rcases exec_cases hexec with ⟨hh, -⟩ | ⟨-, e, -, rfl⟩ | ⟨-, -, rfl⟩
    · simp [hhalt] at hh
    · cases i <;> rfl
    · exact absurd (effectOf_err hlive) herr

/-! ### The coarse states (60_exceptions.md R230) -/

theorem coarse_eq_halted {s : State} : coarse s = .halted ↔ s.halt = true := by grind [coarse]
theorem coarse_eq_stream {s : State} :
    coarse s = .stream ↔ s.halt = false ∧ s.cfb.cfba = true := by grind [coarse]
theorem coarse_eq_keyed {s : State} :
    coarse s = .keyed ↔ s.halt = false ∧ s.cfb.cfba = false ∧ s.sched.kv = true := by grind [coarse]
theorem coarse_eq_idle {s : State} :
    coarse s = .idle ↔ s.halt = false ∧ s.cfb.cfba = false ∧ s.sched.kv = false := by grind [coarse]

/-- The state check of a command (30_encoding.md R105 step 3). -/
def stateCheck (s : State) : Instr → Option Err
  | .nop _ | .wipe _ => none
  | .setkey _ => needIdle s
  | .encblk _ | .decblk _ | .cfbinit _ => needKey s
  | .cfbdec _ | .cfbend _ => needStream s

/-- With a legal `LEN` the state alone decides. -/
theorem firstFailing_of_lenAllowed {i : Instr} (h : i.lenAllowed = true) (s : State) :
    firstFailing s i = stateCheck s i := by
  cases i with
  | cfbdec n =>
    have hlen : lenChunk n = none := lenChunk_eq_none.mpr (of_decide_eq_true h)
    simp [firstFailing, stateCheck, hlen]
  | nop n | setkey n | encblk n | decblk n | cfbinit n | cfbend n | wipe n =>
    obtain rfl := eq_of_beq h
    rfl

/-- The coarse state is that of `HALT`, `CFBA` and `KV`. -/
theorem coarse_congr {s t : State} (hhalt : t.halt = s.halt) (hcfba : t.cfb.cfba = s.cfb.cfba)
    (hkv : t.sched.kv = s.sched.kv) : coarse t = coarse s := by
  simp only [coarse, hhalt, hcfba, hkv]

/-- A cell of the table that holds a code: the coarse state stays. -/
theorem exec_failing_cell {i : Instr} {s : State} {e : Err} {c : Coarse} (hc : coarse s = c)
    (hhalt : s.halt = false) (hcheck : firstFailing s i = some e) :
    ∃ t, exec i s = .next t ∧ t.err = e.code ∧ coarse t = c := by
  refine ⟨_, exec_fails hhalt hcheck, failureOf_err i s e, ?_⟩
  rw [← hc]
  exact coarse_congr (failureOf_halt i s e) (by rw [failureOf_cfb]) (by rw [failureOf_sched])

/-- A cell of the table that holds a success, and where it leads. -/
theorem exec_passing_cell {i : Instr} {s : State} {c : Coarse} (hhalt : s.halt = false)
    (hcheck : firstFailing s i = none) (hc : coarse (effectOf i s) = c) (hlive : c ≠ .halted) :
    ∃ t, exec i s = .next t ∧ t.err = 0 ∧ coarse t = c := by
  refine ⟨_, exec_runs hhalt hcheck, effectOf_err (Bool.eq_false_iff.mpr fun h => ?_), hc⟩
  exact hlive (hc.symm.trans (coarse_eq_halted.mpr h))

/-- A WIPE leads to `idle` without a code, or it halts; whatever the state was. -/
theorem exec_wipe_cell {s : State} {n : Nat} (hhalt : s.halt = false)
    (hcheck : firstFailing s (.wipe n) = none) :
    ∃ t, exec (.wipe n) s = .next t ∧ ((t.err = 0 ∧ coarse t = .idle) ∨ coarse t = .halted) := by
  refine ⟨_, exec_runs hhalt hcheck, ?_⟩
  rw [effectOf]
  cases Config.zeroizeOk s.wipes with
  | true => exact .inl ⟨rfl, coarse_eq_idle.mpr ⟨hhalt, rfl, rfl⟩⟩
  | false => exact .inr rfl

/-- SETKEY leads to `keyed`; its check rules out an active stream. -/
theorem coarse_effectOf_setkey {s : State} (n : Nat) (hhalt : s.halt = false)
    (hidle : s.cfb.cfba = false) : coarse (effectOf (.setkey n) s) = .keyed :=
  coarse_eq_keyed.mpr (by simp [effectOf, hhalt, hidle])

theorem coarse_effectOf_cfbinit {s : State} (n : Nat) (hhalt : s.halt = false) :
    coarse (effectOf (.cfbinit n) s) = .stream := coarse_eq_stream.mpr ⟨hhalt, rfl⟩

theorem coarse_effectOf_cfbdec (n : Nat) (s : State) :
    coarse (effectOf (.cfbdec n) s) = coarse s :=
  coarse_congr (by simp [effectOf]) (by simp [effectOf]) (by simp [effectOf])

/-- CFBEND leads to `keyed`: the key outlives its stream. -/
theorem coarse_effectOf_cfbend {s : State} (n : Nat) (hhalt : s.halt = false)
    (hkey : s.sched.kv = true) : coarse (effectOf (.cfbend n) s) = .keyed :=
  coarse_eq_keyed.mpr ⟨hhalt, rfl, hkey⟩

/-- Settles O47: with a legal `LEN` the state check of a command decides, and what it finds is the
coarse state; that a stream has a key is the invariant's. -/
theorem commandsMoveTheCoarseStateAsTabled : Obligations.CommandsMoveTheCoarseStateAsTabled := by
  intro i s hinv hlen
  have hcheck := firstFailing_of_lenAllowed hlen s
  cases hc : coarse s with
  | halted => exact ⟨s, exec_halted i (coarse_eq_halted.mp hc), rfl⟩
  | idle =>
    obtain ⟨hhalt, hidle, hnokey⟩ := coarse_eq_idle.mp hc
    have hneedKey : needKey s = some .noKey := needKey_eq_some.mpr ⟨hnokey, rfl⟩
    have hneedStream : needStream s = some .noStream := needStream_eq_some.mpr ⟨hidle, rfl⟩
    cases i with
    | nop n => exact exec_passing_cell hhalt hcheck hc nofun
    | setkey n =>
      exact exec_passing_cell hhalt (hcheck.trans (needIdle_eq_none.mpr hidle))
        (coarse_effectOf_setkey n hhalt hidle) nofun
    | encblk n | decblk n | cfbinit n =>
      exact exec_failing_cell hc hhalt (hcheck.trans hneedKey)
    | cfbdec n | cfbend n => exact exec_failing_cell hc hhalt (hcheck.trans hneedStream)
    | wipe n => exact exec_wipe_cell hhalt hcheck
  | keyed =>
    obtain ⟨hhalt, hidle, hkey⟩ := coarse_eq_keyed.mp hc
    have hneedKey : needKey s = none := needKey_eq_none.mpr hkey
    have hneedStream : needStream s = some .noStream := needStream_eq_some.mpr ⟨hidle, rfl⟩
    cases i with
    | nop n => exact exec_passing_cell hhalt hcheck hc nofun
    | setkey n =>
      exact exec_passing_cell hhalt (hcheck.trans (needIdle_eq_none.mpr hidle))
        (coarse_effectOf_setkey n hhalt hidle) nofun
    | encblk n | decblk n => exact exec_passing_cell hhalt (hcheck.trans hneedKey) hc nofun
    | cfbinit n =>
      exact exec_passing_cell hhalt (hcheck.trans hneedKey) (coarse_effectOf_cfbinit n hhalt) nofun
    | cfbdec n | cfbend n => exact exec_failing_cell hc hhalt (hcheck.trans hneedStream)
    | wipe n => exact exec_wipe_cell hhalt hcheck
  | stream =>
    obtain ⟨hhalt, hactive⟩ := coarse_eq_stream.mp hc
    obtain ⟨⟨hstreamKey, -⟩, -⟩ := liveInv_of_inv hhalt hinv
    have hkey := hstreamKey hactive
    have hneedKey : needKey s = none := needKey_eq_none.mpr hkey
    have hneedStream : needStream s = none := needStream_eq_none.mpr hactive
    cases i with
    | nop n => exact exec_passing_cell hhalt hcheck hc nofun
    | setkey n =>
      exact exec_failing_cell hc hhalt (hcheck.trans (needIdle_eq_some.mpr ⟨hactive, rfl⟩))
    | encblk n | decblk n => exact exec_passing_cell hhalt (hcheck.trans hneedKey) hc nofun
    | cfbinit n =>
      exact exec_passing_cell hhalt (hcheck.trans hneedKey) (coarse_effectOf_cfbinit n hhalt) nofun
    | cfbdec n =>
      exact exec_passing_cell hhalt (hcheck.trans hneedStream)
        ((coarse_effectOf_cfbdec n s).trans hc) nofun
    | cfbend n =>
      exact exec_passing_cell hhalt (hcheck.trans hneedStream)
        (coarse_effectOf_cfbend n hhalt hkey) nofun
    | wipe n => exact exec_wipe_cell hhalt hcheck

end Sys2Proof.Machine

namespace Sys2Proof.Machine

/-! ### The reset input (70_reset_and_hazards.md R250) -/

/-- No state refuses or ignores a reset: `HALT` is not consulted, unlike by a write. -/
theorem accept_reset (s : State) : accept .reset s = .next (zeroCore s) := rfl

/-- Of a core zeroed element by element only the model's own fields tell it from the reset state
(10_state.md R45; log entry 8). -/
theorem zeroCore_eq_reset (s : State) : zeroCore s =
    { State.reset with inputs := s.inputs, returned := s.returned, wipes := s.wipes } := rfl

/-- Settles O13: the zero of every element is its reset value. -/
theorem resetInputZeroesEveryElement : Obligations.ResetInputZeroesEveryElement := by
  intro s
  calc accept .reset s = .next (zeroCore s) := accept_reset s
    _ = .next { State.reset with inputs := s.inputs, returned := s.returned, wipes := s.wipes } :=
      congrArg _ (zeroCore_eq_reset s)

end Sys2Proof.Machine

namespace Sys2Proof.Machine

/-! ### What a read delivers (20_memory.md R63, R65; 43_control_ops.md R202) -/

/-- Outside the fail-stop a read at a register's offset is a read of that register. -/
theorem regRead_reg {s : State} (hhalt : s.halt = false) (r : Reg) :
    regRead s r.offset = readReg s r := by
  simp [regRead, regAt_of_offset, hhalt]

theorem regRead_reserved {off : Nat} (hreserved : regAt off = none) (s : State) :
    regRead s off = 0 := by
  simp only [regRead, hreserved]

/-- Settles O9: five of the offsets that read 0 hold a write-only register, the other five none. -/
theorem readsReturnTheirRegister : Obligations.ReadsReturnTheirRegister := by
  refine fun s => ⟨fun off h4 h40 => accept_read_defined s h4 h40, fun hhalt => ?_⟩
  have hreg := regRead_reg hhalt
  have hreserved (off : Nat) (hnone : regAt off = none) : regRead s off = 0 :=
    regRead_reserved hnone s
  refine ⟨hreg .status, hreg .err, hreg (.din 0), hreg (.din 1), hreg (.dout 0), hreg (.dout 1), ?_⟩
  simp only [List.forall_mem_cons]
  exact ⟨hreg .cmd, hreserved 0x0C rfl, hreg (.key 0), hreg (.key 1), hreg (.key 2), hreg (.key 3),
    hreserved 0x30 rfl, hreserved 0x34 rfl, hreserved 0x38 rfl, hreserved 0x3C rfl, nofun⟩

/-! ### The outcomes of NOP and WIPE (43_control_ops.md R200, R201) -/

/-- The two outcomes outside the fail-stop of an operation whose only check is `LEN = 0`. -/
theorem exec_of_lenZero {s : State} {op : Nat → Instr} (hhalt : s.halt = false)
    (hchecks : ∀ n, firstFailing s (op n) = lenZero n) :
    exec (op 0) s = .next (effectOf (op 0) s) ∧
      ∀ n, n ≠ 0 → exec (op n) s = .next (failureOf (op n) s .badLen) := by
  refine ⟨exec_runs hhalt ?_, fun n hn => exec_fails hhalt ?_⟩
  · simp [hchecks]
  · simp [hchecks, hn]

/-- Settles O15: the outcomes of the length check, with the effect of NOP. -/
theorem nopClearsOnlyErr : Obligations.NopClearsOnlyErr :=
  ⟨by decide, fun _ hhalt => exec_of_lenZero (op := .nop) hhalt fun _ => rfl⟩

/-- WIPE outside the fail-stop: the draw of its verification decides which end it takes. -/
theorem exec_wipe_zero {s : State} (hhalt : s.halt = false) :
    exec (.wipe 0) s = .next (wipeWith (Config.zeroizeOk s.wipes) s) :=
  (exec_of_lenZero (op := .wipe) hhalt fun _ => rfl).1

/-- A confirmed WIPE leaves the reset state (10_state.md R45), and has taken one draw. -/
theorem wipeWith_true_eq_reset {s : State} (hhalt : s.halt = false) : wipeWith true s =
    { State.reset with inputs := s.inputs, returned := s.returned, wipes := s.wipes + 1 } := by
  rw [wipeWith_true, zeroCore_eq_reset, hhalt]
  rfl

/-- Settles O22: the two ends of a WIPE, and its length check. -/
theorem wipeZeroesEverythingOrHalts : Obligations.WipeZeroesEverythingOrHalts := by
  refine ⟨decode_wipe, fun s hhalt => ?_⟩
  obtain ⟨hruns, hfails⟩ := exec_of_lenZero (op := .wipe) hhalt fun _ => rfl
  refine ⟨⟨_, hruns, ?_⟩, hfails⟩
  rw [effectOf]
  cases Config.zeroizeOk s.wipes with
  | true => exact wipeWith_true_eq_reset hhalt
  | false => simp [wipeWith_false]

/-- Settles O48: confirmed WIPEs leave the same visible elements, and a core that halts answers
every read by a constant. -/
theorem wipeLeavesNoTraceOfTheSecrets : Obligations.WipeLeavesNoTraceOfTheSecrets := by
  intro s u hs hu hdraw
  refine ⟨_, _, exec_wipe_zero hs, exec_wipe_zero hu, ?_⟩
  rw [← hdraw]
  cases Config.zeroizeOk s.wipes with
  | true =>
    rw [wipeWith_true_eq_reset hs, wipeWith_true_eq_reset hu]
    refine ⟨rfl, fun off => hiddenStateIsUnreadable _ _ off ?_,
      fun _ => ⟨rfl, rfl, rfl, rfl, rfl, rfl⟩⟩
    exact ⟨rfl, rfl, rfl, rfl, rfl, rfl, rfl, rfl, rfl, rfl⟩
  | false =>
    refine ⟨rfl, fun off => ?_, nofun⟩
    rw [regRead_halted (wipeWith_halt false hs), regRead_halted (wipeWith_halt false hu)]

/-! ### SETKEY (40_key_schedule.md R130, R132) -/

theorem firstFailing_setkey_eq_none {s : State} {n : Nat} :
    firstFailing s (.setkey n) = none ↔ n = 16 ∧ s.cfb.cfba = false := by simp [firstFailing]

/-- The shared operations of SETKEY together write the schedule, `KEY` and `ERR`, nothing else. -/
theorem effectOf_setkey (n : Nat) (s : State) : effectOf (.setkey n) s =
    { s with sched := scheduleOf (keyOperand s), key := Vector.replicate 4 0, err := 0 } := by
  simp only [effectOf, installKey, zeroKey, succeed]

/-- SETKEY outside the fail-stop, once its checks have passed. -/
theorem exec_setkey_of_idle {s : State} (hhalt : s.halt = false) (hidle : s.cfb.cfba = false) :
    exec (.setkey 16) s = .next
      { s with sched := scheduleOf (keyOperand s), key := Vector.replicate 4 0, err := 0 } := by
  rw [exec_runs hhalt (firstFailing_setkey_eq_none.mpr ⟨rfl, hidle⟩), effectOf_setkey]

/-- Settles O16: the effect of SETKEY, and its two checks in their order. -/
theorem setkeyInstallsTheExpandedKey : Obligations.SetkeyInstallsTheExpandedKey := by
  refine ⟨by decide, fun s hhalt => ⟨exec_setkey_of_idle hhalt,
    fun hbusy => exec_fails (e := .keyBusy) hhalt ?_,
    fun n hn => exec_fails (e := .keyLen) hhalt ?_⟩⟩
  · simp [firstFailing, hbusy]
  · simp [firstFailing, lenKey, hn]

theorem scheduleOf_km (k : Vector Byte 16) (i : Fin 16) :
    (scheduleOf k).km[i] = (expand k)[i.val] := by
  simp [scheduleOf]

theorem scheduleOf_kr (k : Vector Byte 16) (i : Fin 16) :
    (scheduleOf k).kr[i] = (expand k)[i.val + 16].setWidth 5 := by
  simp [scheduleOf]

/-- Settles O28: keeping five bits is reducing modulo 32. -/
theorem setkeyExtractsTheSubkeys : Obligations.SetkeyExtractsTheSubkeys := by
  intro s hhalt hidle
  refine ⟨_, exec_setkey_of_idle hhalt hidle, scheduleOf_kv _, fun i => ⟨scheduleOf_km _ i, ?_⟩⟩
  rw [scheduleOf_kr, BitVec.toNat_setWidth]

/-! ### What changes the key schedule (40_key_schedule.md R134) -/

theorem eq_of_decode_setkey {w : Word} (h : decode w = .ok (.setkey 16)) : w = 0x00001001 :=
  (encode_of_decode h).symm.trans (by decide)

theorem wipeWith_halt_or_sched_zero (ok : Bool) (s : State) :
    (wipeWith ok s).halt = true ∨ (wipeWith ok s).sched = KeySchedule.zero := by
  cases ok with
  | true => exact .inr rfl
  | false => exact .inl rfl

/-- Settles O43: of the commands whose checks pass, only SETKEY and WIPE write the schedule. -/
theorem onlySetkeyWipeResetChangeTheSchedule :
    Obligations.OnlySetkeyWipeResetChangeTheSchedule := by
  intro s t i haccept
  cases answer_of_accept haccept with
  | read | ignored | storedKey | storedDin | badCmd => exact .inl rfl
  | failed w c e => exact .inl (failureOf_sched c s e)
  | done w c _ hdec hchecks =>
    cases c with
    | nop n | encblk n | decblk n | cfbinit n | cfbend n => exact .inl rfl
    | cfbdec n => exact .inl (by simp [effectOf])
    | setkey n =>
      obtain ⟨rfl, hidle⟩ := firstFailing_setkey_eq_none.mp hchecks
      obtain rfl := eq_of_decode_setkey hdec
      exact .inr (.inl ⟨rfl, hidle, by rw [effectOf_setkey]⟩)
    | wipe n =>
      obtain rfl : n = 0 := lenZero_eq_none.mp hchecks
      obtain rfl := eq_of_decode_wipe hdec
      exact .inr (.inr (.inl ⟨rfl, wipeWith_halt_or_sched_zero _ s⟩))
  | reset => exact .inr (.inr (.inr ⟨rfl, rfl⟩))

/-! ### The key expansion (40_key_schedule.md R131) -/

/-- What a later line reads of `z` is a byte of the word an earlier line has stored there. -/
theorem zLines_zFromX (x : Scratch) : ZLines x (zFromX x) := wordAt_ofWords _ _ _ _

theorem xLines_xFromZ (z : Scratch) : XLines z (xFromZ z) := wordAt_ofWords _ _ _ _

/-- Where the words of four groups of four stand once they are put in a row. -/
theorem getElem_append_of_four_groups (u v w x : Vector Word 4) (j : Fin 4) :
    (u ++ v ++ w ++ x)[j.val] = u[j.val] ∧ (u ++ v ++ w ++ x)[j.val + 4] = v[j.val] ∧
      (u ++ v ++ w ++ x)[j.val + 8] = w[j.val] ∧ (u ++ v ++ w ++ x)[j.val + 12] = x[j.val] := by
  refine ⟨?_, ?_, ?_, ?_⟩
  · rw [Vector.getElem_append_left (by omega), Vector.getElem_append_left (by omega),
      Vector.getElem_append_left j.isLt]
  · rw [Vector.getElem_append_left (by omega), Vector.getElem_append_left (by omega),
      ← Vector.getElem_append_right' u j.isLt]
  · rw [Vector.getElem_append_left (by omega), ← Vector.getElem_append_right' (u ++ v) j.isLt]
  · exact (Vector.getElem_append_right' (u ++ v ++ w) j.isLt).symm

/-- The sixteen words of a pass are those of its four groups of `K` lines. -/
theorem expandPass_getElem (x : Scratch) (j : Fin 4) :
    (expandPass x).1[j.val] = (kFirst (zFromX x))[j.val] ∧
    (expandPass x).1[j.val + 4] = (kSecond (xFromZ (zFromX x)))[j.val] ∧
    (expandPass x).1[j.val + 8] = (kThird (zFromX (xFromZ (zFromX x))))[j.val] ∧
    (expandPass x).1[j.val + 12] = (kFourth (expandPass x).2)[j.val] :=
  getElem_append_of_four_groups _ _ _ _ j

theorem kLines_expandPass (x : Scratch) :
    KLines (zFromX x) (xFromZ (zFromX x)) (zFromX (xFromZ (zFromX x))) (expandPass x).2
      (fun j => (expandPass x).1[j.val]) := by
  obtain ⟨h1, h5, h9, h13⟩ := expandPass_getElem x 0
  obtain ⟨h2, h6, h10, h14⟩ := expandPass_getElem x 1
  obtain ⟨h3, h7, h11, h15⟩ := expandPass_getElem x 2
  obtain ⟨h4, h8, h12, h16⟩ := expandPass_getElem x 3
  exact ⟨h1, h2, h3, h4, h5, h6, h7, h8, h9, h10, h11, h12, h13, h14, h15, h16⟩

/-- The block lines and the `K` lines of one pass, whatever it starts from. -/
theorem passLines_expandPass (x : Scratch) :
    PassLines x (zFromX x) (xFromZ (zFromX x)) (zFromX (xFromZ (zFromX x))) (expandPass x).2
      (fun j => (expandPass x).1[j.val]) :=
  ⟨zLines_zFromX _, xLines_xFromZ _, zLines_zFromX _, xLines_xFromZ _, kLines_expandPass x⟩

theorem expand_getElem_first (k : Vector Byte 16) (j : Fin 16) :
    (expand k)[j.val] = (expandPass k).1[j.val] :=
  (Vector.getElem_append_left' j.isLt _).symm

theorem expand_getElem_second (k : Vector Byte 16) (j : Fin 16) :
    (expand k)[j.val + 16] = (expandPass (expandPass k).2).1[j.val] :=
  (Vector.getElem_append_right' _ j.isLt).symm

/-- Settles O27: each half of the words is one pass, the second from where the first ended. -/
theorem expandFollowsTheRecurrence : Obligations.ExpandFollowsTheRecurrence := by
  intro k
  simp only [expand_getElem_first, expand_getElem_second]
  exact ⟨_, _, _, _, _, _, _, _, passLines_expandPass k, passLines_expandPass (expandPass k).2⟩

end Sys2Proof.Machine
